-- ==== Sys2Proof/Word.lean ====
section
/-! DEFINITION. The bit vectors of the machine: bytes, 16-bit words and 2-bit pixel codes (spec R6). -/

namespace Sys2Proof

/-- `u8` (R6). -/
abbrev Byte := BitVec 8

/-- `u16` (R6): addresses, `PC`, `SP` and the register pairs. -/
abbrev Word := BitVec 16

/-- `u2` (R6): a pixel-colour code. -/
abbrev Pixel := BitVec 2

end Sys2Proof
end

