-- ==== Sys2Proof/Config.lean ====
section
/-! DEFINITION. The implementation parameters of the core (spec R5) and what an unlisted byte of memory reads as. -/

namespace Sys2Proof.Config

/-- `PREFIX_BYTE`: the escape to the extended table (R5, decision D3; log 17). -/
abbrev prefixByte : Byte := 0xCB#8

/-- `IO_BASE`: base of the high-page forms (R5). -/
abbrev ioBase : Word := 0xFF00#16

/-- `LY_ADDR`: the current-line register (R5, R42). -/
abbrev lyAddr : Word := 0xFF44#16

/-- `BG_MAP_BASE` (R5, decision D10; log 19). -/
abbrev bgMapBase : Word := 0x9800#16

/-- `TILE_DATA_BASE` (R5, decision D11; log 19). -/
abbrev tileDataBase : Word := 0x8000#16

/-- `TILE_BYTES`: 8 lines of 2 bytes (R5). -/
abbrev tileBytes : Nat := 16

/-- Identifiers in one row of the tile map (R301). -/
abbrev mapRowTiles : Nat := 32

/-- Lines (and columns) of a tile (R336). -/
abbrev tileLines : Nat := 8

/-- `OAM_TICKS`: length of ObjectSearch (R5). -/
abbrev oamTicks : Nat := 40

/-- `LINE_TICKS` (R5). -/
abbrev lineTicks : Nat := 456

/-- `VISIBLE_LINES` (R5). -/
abbrev visibleLines : Nat := 144

/-- `TOTAL_LINES`: line index 0 to 153 (R5, conflict C3). -/
abbrev totalLines : Nat := 154

/-- `LINE_WIDTH` (R5). -/
abbrev lineWidth : Nat := 160

/-- `FIFO_CAPACITY` (R5, conflict C8). -/
abbrev fifoCapacity : Nat := 16

/-- `FIFO_POP_ABOVE` (R5). -/
abbrev fifoPopAbove : Nat := 8

/-- `FIFO_PUSH_AT_MOST` (R5). -/
abbrev fifoPushAtMost : Nat := 8

/-- The fetcher steps once per this many calls (R331). -/
abbrev fetcherDivider : Nat := 2

/-- `TICKS_PER_STEP`: PPU ticks the driver issues after each CPU step (R5, R394; log 12). -/
abbrev ticksPerStep : Nat := 1

/-- The three bytes that R40 fixes of `BOOT_IMAGE`. -/
def bootImage : List Byte := [0x31#8, 0xFE#8, 0xFF#8]

/-- The byte `State.reset` has wherever the spec leaves `MEM_INIT` open (decision D16).
DESIGN CHOICE (log 2), unsafe for claims about `State.reset` alone. -/
abbrev memInitByte : Byte := 0x00#8

/-- What an address that the memory list does not hold reads as: the three known bytes of the boot image (R40),
elsewhere `memInitByte` (log 2, log 3). -/
def unlistedByte (a : Nat) : Byte := (bootImage[a]?).getD memInitByte

end Sys2Proof.Config
end

