-- ==== Sys2Proof/WellFormed.lean ====
section
/-! DEFINITION. Which terms of `Instr` are whole instructions of the core. Operand widths and bit numbers are bounded by
their types; what is left to check is the prefix (spec R264). -/

namespace Sys2Proof

/-- The row `PREFIX` alone is not an instruction: the prefix and its second byte are ONE instruction of the extended table
(R264), so no well-formed instruction is the bare prefix (log 6). Every other row is an instruction or an unhandled byte. -/
def Instr.wf (i : Instr) : Bool :=
  match i with
  | .prefixCB _ => false
  | _ => true

end Sys2Proof
end

