-- ==== Sys2Proof/Decode.lean ====
section
/-! DEFINITION. From bytes to instructions and back (spec `30_encoding.md`).
The decoder reads the byte-by-byte tables R99 and R105 (where R98 and R99 could be read differently, `opcode_table.json`
decides: R99); the encoder lists every row's bytes; `decodeByFields` is the field structure R98 and R264 as a second
definition, which an obligation states to be equal to the table. -/

namespace Sys2Proof

/-- `hi ++ lo` (R6, R92). -/
def word16 (hi lo : Byte) : Word := hi ++ lo

/-- `v[15:8]`. -/
def hiByte (v : Word) : Byte := v.extractLsb' 8 8

/-- `v[7:0]`. -/
def loByte (v : Word) : Byte := v.extractLsb' 0 8

/-- The extended table (R105): the rotates and shifts, second byte 0x00 to 0x3F; `y` is the row. -/
def extendedRot (y : Nat) : List Instr :=
  match y with
  | 0 => [.rlc_b, .rlc_c, .rlc_d, .rlc_e, .rlc_h, .rlc_l, .rlc_atHL, .rlc_a]
  | 1 => [.rrc_b, .rrc_c, .rrc_d, .rrc_e, .rrc_h, .rrc_l, .rrc_atHL, .rrc_a]
  | 2 => [.rl_b, .rl_c, .rl_d, .rl_e, .rl_h, .rl_l, .rl_atHL, .rl_a]
  | 3 => [.rr_b, .rr_c, .rr_d, .rr_e, .rr_h, .rr_l, .rr_atHL, .rr_a]
  | 4 => [.sla_b, .sla_c, .sla_d, .sla_e, .sla_h, .sla_l, .sla_atHL, .sla_a]
  | 5 => [.sra_b, .sra_c, .sra_d, .sra_e, .sra_h, .sra_l, .sra_atHL, .sra_a]
  | 6 => [.swap_b, .swap_c, .swap_d, .swap_e, .swap_h, .swap_l, .swap_atHL, .swap_a]
  | _ => [.srl_b, .srl_c, .srl_d, .srl_e, .srl_h, .srl_l, .srl_atHL, .srl_a]

/-- The extended table (R105): `BIT`, 0x40 to 0x7F; `y` is the row. -/
def extendedBit (y : Nat) : List Instr :=
  match y with
  | 0 => [.bit_0_b, .bit_0_c, .bit_0_d, .bit_0_e, .bit_0_h, .bit_0_l, .bit_0_atHL, .bit_0_a]
  | 1 => [.bit_1_b, .bit_1_c, .bit_1_d, .bit_1_e, .bit_1_h, .bit_1_l, .bit_1_atHL, .bit_1_a]
  | 2 => [.bit_2_b, .bit_2_c, .bit_2_d, .bit_2_e, .bit_2_h, .bit_2_l, .bit_2_atHL, .bit_2_a]
  | 3 => [.bit_3_b, .bit_3_c, .bit_3_d, .bit_3_e, .bit_3_h, .bit_3_l, .bit_3_atHL, .bit_3_a]
  | 4 => [.bit_4_b, .bit_4_c, .bit_4_d, .bit_4_e, .bit_4_h, .bit_4_l, .bit_4_atHL, .bit_4_a]
  | 5 => [.bit_5_b, .bit_5_c, .bit_5_d, .bit_5_e, .bit_5_h, .bit_5_l, .bit_5_atHL, .bit_5_a]
  | 6 => [.bit_6_b, .bit_6_c, .bit_6_d, .bit_6_e, .bit_6_h, .bit_6_l, .bit_6_atHL, .bit_6_a]
  | _ => [.bit_7_b, .bit_7_c, .bit_7_d, .bit_7_e, .bit_7_h, .bit_7_l, .bit_7_atHL, .bit_7_a]

/-- The extended table (R105): `RES`, 0x80 to 0xBF; `y` is the row. -/
def extendedRes (y : Nat) : List Instr :=
  match y with
  | 0 => [.res_0_b, .res_0_c, .res_0_d, .res_0_e, .res_0_h, .res_0_l, .res_0_atHL, .res_0_a]
  | 1 => [.res_1_b, .res_1_c, .res_1_d, .res_1_e, .res_1_h, .res_1_l, .res_1_atHL, .res_1_a]
  | 2 => [.res_2_b, .res_2_c, .res_2_d, .res_2_e, .res_2_h, .res_2_l, .res_2_atHL, .res_2_a]
  | 3 => [.res_3_b, .res_3_c, .res_3_d, .res_3_e, .res_3_h, .res_3_l, .res_3_atHL, .res_3_a]
  | 4 => [.res_4_b, .res_4_c, .res_4_d, .res_4_e, .res_4_h, .res_4_l, .res_4_atHL, .res_4_a]
  | 5 => [.res_5_b, .res_5_c, .res_5_d, .res_5_e, .res_5_h, .res_5_l, .res_5_atHL, .res_5_a]
  | 6 => [.res_6_b, .res_6_c, .res_6_d, .res_6_e, .res_6_h, .res_6_l, .res_6_atHL, .res_6_a]
  | _ => [.res_7_b, .res_7_c, .res_7_d, .res_7_e, .res_7_h, .res_7_l, .res_7_atHL, .res_7_a]

/-- The extended table (R105): `SET`, 0xC0 to 0xFF; `y` is the row. -/
def extendedSet (y : Nat) : List Instr :=
  match y with
  | 0 => [.set_0_b, .set_0_c, .set_0_d, .set_0_e, .set_0_h, .set_0_l, .set_0_atHL, .set_0_a]
  | 1 => [.set_1_b, .set_1_c, .set_1_d, .set_1_e, .set_1_h, .set_1_l, .set_1_atHL, .set_1_a]
  | 2 => [.set_2_b, .set_2_c, .set_2_d, .set_2_e, .set_2_h, .set_2_l, .set_2_atHL, .set_2_a]
  | 3 => [.set_3_b, .set_3_c, .set_3_d, .set_3_e, .set_3_h, .set_3_l, .set_3_atHL, .set_3_a]
  | 4 => [.set_4_b, .set_4_c, .set_4_d, .set_4_e, .set_4_h, .set_4_l, .set_4_atHL, .set_4_a]
  | 5 => [.set_5_b, .set_5_c, .set_5_d, .set_5_e, .set_5_h, .set_5_l, .set_5_atHL, .set_5_a]
  | 6 => [.set_6_b, .set_6_c, .set_6_d, .set_6_e, .set_6_h, .set_6_l, .set_6_atHL, .set_6_a]
  | _ => [.set_7_b, .set_7_c, .set_7_d, .set_7_e, .set_7_h, .set_7_l, .set_7_atHL, .set_7_a]

/-- The row of the extended table (R105) that holds the second byte `op2`. -/
def extendedRow (op2 : Nat) : List Instr :=
  match op2 / 64 with
  | 0 => extendedRot (op2 / 8 % 8)
  | 1 => extendedBit (op2 / 8 % 8)
  | 2 => extendedRes (op2 / 8 % 8)
  | _ => extendedSet (op2 / 8 % 8)

/-- The extended-table instruction of a second byte (R102: every value is supported; R264). -/
def decodeExtended (op2 : Byte) : Instr := (extendedRow op2.toNat).getD (op2.toNat % 8) .nop

/-- Row 0x of the main table (R99). -/
def mainRow0 (b1 b2 : Byte) : List Instr :=
  [.nop, .ld_bc_d16 (word16 b2 b1), .ld_atBC_a, .inc_bc,
   .inc_b, .dec_b, .ld_b_d8 b1, .rlca,
   .ld_at16_sp (word16 b2 b1), .add_hl_bc, .ld_a_atBC, .dec_bc,
   .inc_c, .dec_c, .ld_c_d8 b1, .rrca]

/-- Row 1x of the main table (R99). -/
def mainRow1 (b1 b2 : Byte) : List Instr :=
  [.unhandled_stop, .ld_de_d16 (word16 b2 b1), .ld_atDE_a, .inc_de,
   .inc_d, .dec_d, .ld_d_d8 b1, .rla,
   .jr_e8 b1, .add_hl_de, .ld_a_atDE, .dec_de,
   .inc_e, .dec_e, .ld_e_d8 b1, .rra]

/-- Row 2x of the main table (R99). -/
def mainRow2 (b1 b2 : Byte) : List Instr :=
  [.jr_nz_e8 b1, .ld_hl_d16 (word16 b2 b1), .ld_atHLI_a, .inc_hl,
   .inc_h, .dec_h, .ld_h_d8 b1, .daa,
   .jr_z_e8 b1, .add_hl_hl, .ld_a_atHLI, .dec_hl,
   .inc_l, .dec_l, .ld_l_d8 b1, .cpl]

/-- Row 3x of the main table (R99). -/
def mainRow3 (b1 b2 : Byte) : List Instr :=
  [.jr_nc_e8 b1, .ld_sp_d16 (word16 b2 b1), .ld_atHLD_a, .inc_sp,
   .inc_atHL, .dec_atHL, .ld_atHL_d8 b1, .scf,
   .jr_c_e8 b1, .add_hl_sp, .ld_a_atHLD, .dec_sp,
   .inc_a, .dec_a, .ld_a_d8 b1, .ccf]

/-- Row 4x of the main table (R99). -/
def mainRow4 (_b1 _b2 : Byte) : List Instr :=
  [.ld_b_b, .ld_b_c, .ld_b_d, .ld_b_e,
   .ld_b_h, .ld_b_l, .ld_b_atHL, .ld_b_a,
   .ld_c_b, .ld_c_c, .ld_c_d, .ld_c_e,
   .ld_c_h, .ld_c_l, .ld_c_atHL, .ld_c_a]

/-- Row 5x of the main table (R99). -/
def mainRow5 (_b1 _b2 : Byte) : List Instr :=
  [.ld_d_b, .ld_d_c, .ld_d_d, .ld_d_e,
   .ld_d_h, .ld_d_l, .ld_d_atHL, .ld_d_a,
   .ld_e_b, .ld_e_c, .ld_e_d, .ld_e_e,
   .ld_e_h, .ld_e_l, .ld_e_atHL, .ld_e_a]

/-- Row 6x of the main table (R99). -/
def mainRow6 (_b1 _b2 : Byte) : List Instr :=
  [.ld_h_b, .ld_h_c, .ld_h_d, .ld_h_e,
   .ld_h_h, .ld_h_l, .ld_h_atHL, .ld_h_a,
   .ld_l_b, .ld_l_c, .ld_l_d, .ld_l_e,
   .ld_l_h, .ld_l_l, .ld_l_atHL, .ld_l_a]

/-- Row 7x of the main table (R99). -/
def mainRow7 (_b1 _b2 : Byte) : List Instr :=
  [.ld_atHL_b, .ld_atHL_c, .ld_atHL_d, .ld_atHL_e,
   .ld_atHL_h, .ld_atHL_l, .unhandled_halt, .ld_atHL_a,
   .ld_a_b, .ld_a_c, .ld_a_d, .ld_a_e,
   .ld_a_h, .ld_a_l, .ld_a_atHL, .ld_a_a]

/-- Row 8x of the main table (R99). -/
def mainRow8 (_b1 _b2 : Byte) : List Instr :=
  [.add_a_b, .add_a_c, .add_a_d, .add_a_e,
   .add_a_h, .add_a_l, .add_a_atHL, .add_a_a,
   .adc_a_b, .adc_a_c, .adc_a_d, .adc_a_e,
   .adc_a_h, .adc_a_l, .adc_a_atHL, .adc_a_a]

/-- Row 9x of the main table (R99). -/
def mainRow9 (_b1 _b2 : Byte) : List Instr :=
  [.sub_b, .sub_c, .sub_d, .sub_e,
   .sub_h, .sub_l, .sub_atHL, .sub_a,
   .sbc_a_b, .sbc_a_c, .sbc_a_d, .sbc_a_e,
   .sbc_a_h, .sbc_a_l, .sbc_a_atHL, .sbc_a_a]

/-- Row Ax of the main table (R99). -/
def mainRowA (_b1 _b2 : Byte) : List Instr :=
  [.and_b, .and_c, .and_d, .and_e,
   .and_h, .and_l, .and_atHL, .and_a,
   .xor_b, .xor_c, .xor_d, .xor_e,
   .xor_h, .xor_l, .xor_atHL, .xor_a]

/-- Row Bx of the main table (R99). -/
def mainRowB (_b1 _b2 : Byte) : List Instr :=
  [.or_b, .or_c, .or_d, .or_e,
   .or_h, .or_l, .or_atHL, .or_a,
   .cp_b, .cp_c, .cp_d, .cp_e,
   .cp_h, .cp_l, .cp_atHL, .cp_a]

/-- Row Cx of the main table (R99); at 0xCB the second byte selects the extended table (R264). -/
def mainRowC (b1 b2 : Byte) : List Instr :=
  [.ret_nz, .pop_bc, .jp_nz_a16 (word16 b2 b1), .jp_a16 (word16 b2 b1),
   .call_nz_a16 (word16 b2 b1), .push_bc, .add_a_d8 b1, .rst_00,
   .ret_z, .ret, .jp_z_a16 (word16 b2 b1), decodeExtended b1,
   .call_z_a16 (word16 b2 b1), .call_a16 (word16 b2 b1), .adc_a_d8 b1, .rst_08]

/-- Row Dx of the main table (R99). -/
def mainRowD (b1 b2 : Byte) : List Instr :=
  [.ret_nc, .pop_de, .jp_nc_a16 (word16 b2 b1), .unhandled_D3,
   .call_nc_a16 (word16 b2 b1), .push_de, .sub_d8 b1, .rst_10,
   .ret_c, .unhandled_reti, .jp_c_a16 (word16 b2 b1), .unhandled_DB,
   .call_c_a16 (word16 b2 b1), .unhandled_DD, .sbc_a_d8 b1, .rst_18]

/-- Row Ex of the main table (R99). -/
def mainRowE (b1 b2 : Byte) : List Instr :=
  [.ldh_at8_a b1, .pop_hl, .ld_atC_a, .unhandled_E3,
   .unhandled_E4, .push_hl, .and_d8 b1, .rst_20,
   .add_sp_e8 b1, .jp_hl, .ld_at16_a (word16 b2 b1), .unhandled_EB,
   .unhandled_EC, .unhandled_ED, .xor_d8 b1, .rst_28]

/-- Row Fx of the main table (R99). -/
def mainRowF (b1 b2 : Byte) : List Instr :=
  [.ldh_a_at8 b1, .pop_af, .ld_a_atC, .unhandled_di,
   .unhandled_F4, .push_af, .or_d8 b1, .rst_30,
   .ld_hl_sp_e8 b1, .ld_sp_hl, .ld_a_at16 (word16 b2 b1), .unhandled_ei,
   .unhandled_FC, .unhandled_FD, .cp_d8 b1, .rst_38]

/-- The row of the main table (R99) with high nibble `hi`, for the two bytes that follow the opcode. -/
def mainRow (hi : Nat) (b1 b2 : Byte) : List Instr :=
  match hi with
  | 0 => mainRow0 b1 b2
  | 1 => mainRow1 b1 b2
  | 2 => mainRow2 b1 b2
  | 3 => mainRow3 b1 b2
  | 4 => mainRow4 b1 b2
  | 5 => mainRow5 b1 b2
  | 6 => mainRow6 b1 b2
  | 7 => mainRow7 b1 b2
  | 8 => mainRow8 b1 b2
  | 9 => mainRow9 b1 b2
  | 10 => mainRowA b1 b2
  | 11 => mainRowB b1 b2
  | 12 => mainRowC b1 b2
  | 13 => mainRowD b1 b2
  | 14 => mainRowE b1 b2
  | _ => mainRowF b1 b2

/-- The instruction that the first byte `op` and the two bytes after it hold (R90, R92); a shorter instruction does not look
at the bytes beyond its length. Total: the 16 unhandled bytes are instructions of their own, whose effect is the fault. -/
def decodeOp (op b1 b2 : Byte) : Instr := (mainRow (op.toNat / 16) b1 b2).getD (op.toNat % 16) .nop

/-- The first bytes of the 3-byte instructions (R104). -/
def threeByteOps : List Byte :=
  [0x01#8, 0x11#8, 0x21#8, 0x31#8, 0x08#8, 0xC2#8, 0xCA#8, 0xD2#8, 0xDA#8, 0xC3#8,
   0xC4#8, 0xCC#8, 0xD4#8, 0xDC#8, 0xCD#8, 0xEA#8, 0xFA#8]

/-- The first bytes of the 2-byte instructions, the prefix among them (R104). -/
def twoByteOps : List Byte :=
  [0xCB#8, 0x06#8, 0x0E#8, 0x16#8, 0x1E#8, 0x26#8, 0x2E#8, 0x36#8, 0x3E#8,
   0x18#8, 0x20#8, 0x28#8, 0x30#8, 0x38#8,
   0xC6#8, 0xCE#8, 0xD6#8, 0xDE#8, 0xE6#8, 0xEE#8, 0xF6#8, 0xFE#8,
   0xE0#8, 0xF0#8, 0xE8#8, 0xF8#8]

/-- The length that the first byte determines (R104; the table gives the unhandled bytes length 1). -/
def lengthOf (op : Byte) : Nat :=
  if threeByteOps.contains op then 3 else if twoByteOps.contains op then 2 else 1

/-- Why a list of bytes holds no instruction: it ends too early. No byte value is refused here, since the spec gives each one
an instruction or the fault (R90). The machine's own fetch never meets these. -/
inductive DecodeError where
  | noBytes
  | truncated (op : Byte)
  deriving DecidableEq, Repr

/-- Decode the first instruction of a list of bytes; answers the bytes after it too. -/
def decode (bytes : List Byte) : Except DecodeError (Instr × List Byte) :=
  match bytes with
  | [] => .error .noBytes
  | op :: rest =>
    match lengthOf op, rest with
    | 2, b1 :: rest' => .ok (decodeOp op b1 0#8, rest')
    | 2, [] => .error (.truncated op)
    | 3, b1 :: b2 :: rest' => .ok (decodeOp op b1 b2, rest')
    | 3, _ => .error (.truncated op)
    | _, _ => .ok (decodeOp op 0#8 0#8, rest)

/-- The three bytes, in address order, of an instruction word numbered as `spec/opcode_table.json` numbers it, zeros above
`nbits`. The table writes an extended row as the 16-bit number 0xCBnn, first byte in bits 15 to 8; every other row has its
first byte in bits 7 to 0. DEDUCED (log 7). -/
def tableBytes (nbits w : Nat) : List Byte :=
  let v := w % 2 ^ nbits
  if nbits = 16 ∧ v / 256 = Config.prefixByte.toNat then
    [Config.prefixByte, BitVec.ofNat 8 v, 0#8]
  else
    [BitVec.ofNat 8 v, BitVec.ofNat 8 (v / 256), BitVec.ofNat 8 (v / 65536)]

/-- The instruction that the decoder reads from a word of the opcode table. -/
def decodeTableWord (nbits w : Nat) : Option Instr :=
  match decode (tableBytes nbits w) with
  | .ok (i, _) => some i
  | .error _ => none


/-- The bytes of an instruction, from the encoding tables (R91, R92, R98, R105). -/
def encode (i : Instr) : List Byte :=
  match i with
  | .nop => [0x00#8]
  | .ld_bc_d16 d16 => [0x01#8, loByte d16, hiByte d16]
  | .ld_atBC_a => [0x02#8]
  | .inc_bc => [0x03#8]
  | .inc_b => [0x04#8]
  | .dec_b => [0x05#8]
  | .ld_b_d8 d8 => [0x06#8, d8]
  | .rlca => [0x07#8]
  | .ld_at16_sp a16 => [0x08#8, loByte a16, hiByte a16]
  | .add_hl_bc => [0x09#8]
  | .ld_a_atBC => [0x0A#8]
  | .dec_bc => [0x0B#8]
  | .inc_c => [0x0C#8]
  | .dec_c => [0x0D#8]
  | .ld_c_d8 d8 => [0x0E#8, d8]
  | .rrca => [0x0F#8]
  | .unhandled_stop => [0x10#8]
  | .ld_de_d16 d16 => [0x11#8, loByte d16, hiByte d16]
  | .ld_atDE_a => [0x12#8]
  | .inc_de => [0x13#8]
  | .inc_d => [0x14#8]
  | .dec_d => [0x15#8]
  | .ld_d_d8 d8 => [0x16#8, d8]
  | .rla => [0x17#8]
  | .jr_e8 e8 => [0x18#8, e8]
  | .add_hl_de => [0x19#8]
  | .ld_a_atDE => [0x1A#8]
  | .dec_de => [0x1B#8]
  | .inc_e => [0x1C#8]
  | .dec_e => [0x1D#8]
  | .ld_e_d8 d8 => [0x1E#8, d8]
  | .rra => [0x1F#8]
  | .jr_nz_e8 e8 => [0x20#8, e8]
  | .ld_hl_d16 d16 => [0x21#8, loByte d16, hiByte d16]
  | .ld_atHLI_a => [0x22#8]
  | .inc_hl => [0x23#8]
  | .inc_h => [0x24#8]
  | .dec_h => [0x25#8]
  | .ld_h_d8 d8 => [0x26#8, d8]
  | .daa => [0x27#8]
  | .jr_z_e8 e8 => [0x28#8, e8]
  | .add_hl_hl => [0x29#8]
  | .ld_a_atHLI => [0x2A#8]
  | .dec_hl => [0x2B#8]
  | .inc_l => [0x2C#8]
  | .dec_l => [0x2D#8]
  | .ld_l_d8 d8 => [0x2E#8, d8]
  | .cpl => [0x2F#8]
  | .jr_nc_e8 e8 => [0x30#8, e8]
  | .ld_sp_d16 d16 => [0x31#8, loByte d16, hiByte d16]
  | .ld_atHLD_a => [0x32#8]
  | .inc_sp => [0x33#8]
  | .inc_atHL => [0x34#8]
  | .dec_atHL => [0x35#8]
  | .ld_atHL_d8 d8 => [0x36#8, d8]
  | .scf => [0x37#8]
  | .jr_c_e8 e8 => [0x38#8, e8]
  | .add_hl_sp => [0x39#8]
  | .ld_a_atHLD => [0x3A#8]
  | .dec_sp => [0x3B#8]
  | .inc_a => [0x3C#8]
  | .dec_a => [0x3D#8]
  | .ld_a_d8 d8 => [0x3E#8, d8]
  | .ccf => [0x3F#8]
  | .ld_b_b => [0x40#8]
  | .ld_b_c => [0x41#8]
  | .ld_b_d => [0x42#8]
  | .ld_b_e => [0x43#8]
  | .ld_b_h => [0x44#8]
  | .ld_b_l => [0x45#8]
  | .ld_b_atHL => [0x46#8]
  | .ld_b_a => [0x47#8]
  | .ld_c_b => [0x48#8]
  | .ld_c_c => [0x49#8]
  | .ld_c_d => [0x4A#8]
  | .ld_c_e => [0x4B#8]
  | .ld_c_h => [0x4C#8]
  | .ld_c_l => [0x4D#8]
  | .ld_c_atHL => [0x4E#8]
  | .ld_c_a => [0x4F#8]
  | .ld_d_b => [0x50#8]
  | .ld_d_c => [0x51#8]
  | .ld_d_d => [0x52#8]
  | .ld_d_e => [0x53#8]
  | .ld_d_h => [0x54#8]
  | .ld_d_l => [0x55#8]
  | .ld_d_atHL => [0x56#8]
  | .ld_d_a => [0x57#8]
  | .ld_e_b => [0x58#8]
  | .ld_e_c => [0x59#8]
  | .ld_e_d => [0x5A#8]
  | .ld_e_e => [0x5B#8]
  | .ld_e_h => [0x5C#8]
  | .ld_e_l => [0x5D#8]
  | .ld_e_atHL => [0x5E#8]
  | .ld_e_a => [0x5F#8]
  | .ld_h_b => [0x60#8]
  | .ld_h_c => [0x61#8]
  | .ld_h_d => [0x62#8]
  | .ld_h_e => [0x63#8]
  | .ld_h_h => [0x64#8]
  | .ld_h_l => [0x65#8]
  | .ld_h_atHL => [0x66#8]
  | .ld_h_a => [0x67#8]
  | .ld_l_b => [0x68#8]
  | .ld_l_c => [0x69#8]
  | .ld_l_d => [0x6A#8]
  | .ld_l_e => [0x6B#8]
  | .ld_l_h => [0x6C#8]
  | .ld_l_l => [0x6D#8]
  | .ld_l_atHL => [0x6E#8]
  | .ld_l_a => [0x6F#8]
  | .ld_atHL_b => [0x70#8]
  | .ld_atHL_c => [0x71#8]
  | .ld_atHL_d => [0x72#8]
  | .ld_atHL_e => [0x73#8]
  | .ld_atHL_h => [0x74#8]
  | .ld_atHL_l => [0x75#8]
  | .unhandled_halt => [0x76#8]
  | .ld_atHL_a => [0x77#8]
  | .ld_a_b => [0x78#8]
  | .ld_a_c => [0x79#8]
  | .ld_a_d => [0x7A#8]
  | .ld_a_e => [0x7B#8]
  | .ld_a_h => [0x7C#8]
  | .ld_a_l => [0x7D#8]
  | .ld_a_atHL => [0x7E#8]
  | .ld_a_a => [0x7F#8]
  | .add_a_b => [0x80#8]
  | .add_a_c => [0x81#8]
  | .add_a_d => [0x82#8]
  | .add_a_e => [0x83#8]
  | .add_a_h => [0x84#8]
  | .add_a_l => [0x85#8]
  | .add_a_atHL => [0x86#8]
  | .add_a_a => [0x87#8]
  | .adc_a_b => [0x88#8]
  | .adc_a_c => [0x89#8]
  | .adc_a_d => [0x8A#8]
  | .adc_a_e => [0x8B#8]
  | .adc_a_h => [0x8C#8]
  | .adc_a_l => [0x8D#8]
  | .adc_a_atHL => [0x8E#8]
  | .adc_a_a => [0x8F#8]
  | .sub_b => [0x90#8]
  | .sub_c => [0x91#8]
  | .sub_d => [0x92#8]
  | .sub_e => [0x93#8]
  | .sub_h => [0x94#8]
  | .sub_l => [0x95#8]
  | .sub_atHL => [0x96#8]
  | .sub_a => [0x97#8]
  | .sbc_a_b => [0x98#8]
  | .sbc_a_c => [0x99#8]
  | .sbc_a_d => [0x9A#8]
  | .sbc_a_e => [0x9B#8]
  | .sbc_a_h => [0x9C#8]
  | .sbc_a_l => [0x9D#8]
  | .sbc_a_atHL => [0x9E#8]
  | .sbc_a_a => [0x9F#8]
  | .and_b => [0xA0#8]
  | .and_c => [0xA1#8]
  | .and_d => [0xA2#8]
  | .and_e => [0xA3#8]
  | .and_h => [0xA4#8]
  | .and_l => [0xA5#8]
  | .and_atHL => [0xA6#8]
  | .and_a => [0xA7#8]
  | .xor_b => [0xA8#8]
  | .xor_c => [0xA9#8]
  | .xor_d => [0xAA#8]
  | .xor_e => [0xAB#8]
  | .xor_h => [0xAC#8]
  | .xor_l => [0xAD#8]
  | .xor_atHL => [0xAE#8]
  | .xor_a => [0xAF#8]
  | .or_b => [0xB0#8]
  | .or_c => [0xB1#8]
  | .or_d => [0xB2#8]
  | .or_e => [0xB3#8]
  | .or_h => [0xB4#8]
  | .or_l => [0xB5#8]
  | .or_atHL => [0xB6#8]
  | .or_a => [0xB7#8]
  | .cp_b => [0xB8#8]
  | .cp_c => [0xB9#8]
  | .cp_d => [0xBA#8]
  | .cp_e => [0xBB#8]
  | .cp_h => [0xBC#8]
  | .cp_l => [0xBD#8]
  | .cp_atHL => [0xBE#8]
  | .cp_a => [0xBF#8]
  | .ret_nz => [0xC0#8]
  | .pop_bc => [0xC1#8]
  | .jp_nz_a16 a16 => [0xC2#8, loByte a16, hiByte a16]
  | .jp_a16 a16 => [0xC3#8, loByte a16, hiByte a16]
  | .call_nz_a16 a16 => [0xC4#8, loByte a16, hiByte a16]
  | .push_bc => [0xC5#8]
  | .add_a_d8 d8 => [0xC6#8, d8]
  | .rst_00 => [0xC7#8]
  | .ret_z => [0xC8#8]
  | .ret => [0xC9#8]
  | .jp_z_a16 a16 => [0xCA#8, loByte a16, hiByte a16]
  | .prefixCB op2 => [0xCB#8, op2]
  | .call_z_a16 a16 => [0xCC#8, loByte a16, hiByte a16]
  | .call_a16 a16 => [0xCD#8, loByte a16, hiByte a16]
  | .adc_a_d8 d8 => [0xCE#8, d8]
  | .rst_08 => [0xCF#8]
  | .ret_nc => [0xD0#8]
  | .pop_de => [0xD1#8]
  | .jp_nc_a16 a16 => [0xD2#8, loByte a16, hiByte a16]
  | .unhandled_D3 => [0xD3#8]
  | .call_nc_a16 a16 => [0xD4#8, loByte a16, hiByte a16]
  | .push_de => [0xD5#8]
  | .sub_d8 d8 => [0xD6#8, d8]
  | .rst_10 => [0xD7#8]
  | .ret_c => [0xD8#8]
  | .unhandled_reti => [0xD9#8]
  | .jp_c_a16 a16 => [0xDA#8, loByte a16, hiByte a16]
  | .unhandled_DB => [0xDB#8]
  | .call_c_a16 a16 => [0xDC#8, loByte a16, hiByte a16]
  | .unhandled_DD => [0xDD#8]
  | .sbc_a_d8 d8 => [0xDE#8, d8]
  | .rst_18 => [0xDF#8]
  | .ldh_at8_a a8 => [0xE0#8, a8]
  | .pop_hl => [0xE1#8]
  | .ld_atC_a => [0xE2#8]
  | .unhandled_E3 => [0xE3#8]
  | .unhandled_E4 => [0xE4#8]
  | .push_hl => [0xE5#8]
  | .and_d8 d8 => [0xE6#8, d8]
  | .rst_20 => [0xE7#8]
  | .add_sp_e8 e8 => [0xE8#8, e8]
  | .jp_hl => [0xE9#8]
  | .ld_at16_a a16 => [0xEA#8, loByte a16, hiByte a16]
  | .unhandled_EB => [0xEB#8]
  | .unhandled_EC => [0xEC#8]
  | .unhandled_ED => [0xED#8]
  | .xor_d8 d8 => [0xEE#8, d8]
  | .rst_28 => [0xEF#8]
  | .ldh_a_at8 a8 => [0xF0#8, a8]
  | .pop_af => [0xF1#8]
  | .ld_a_atC => [0xF2#8]
  | .unhandled_di => [0xF3#8]
  | .unhandled_F4 => [0xF4#8]
  | .push_af => [0xF5#8]
  | .or_d8 d8 => [0xF6#8, d8]
  | .rst_30 => [0xF7#8]
  | .ld_hl_sp_e8 e8 => [0xF8#8, e8]
  | .ld_sp_hl => [0xF9#8]
  | .ld_a_at16 a16 => [0xFA#8, loByte a16, hiByte a16]
  | .unhandled_ei => [0xFB#8]
  | .unhandled_FC => [0xFC#8]
  | .unhandled_FD => [0xFD#8]
  | .cp_d8 d8 => [0xFE#8, d8]
  | .rst_38 => [0xFF#8]
  | .rlc_b => [0xCB#8, 0x00#8]
  | .rlc_c => [0xCB#8, 0x01#8]
  | .rlc_d => [0xCB#8, 0x02#8]
  | .rlc_e => [0xCB#8, 0x03#8]
  | .rlc_h => [0xCB#8, 0x04#8]
  | .rlc_l => [0xCB#8, 0x05#8]
  | .rlc_atHL => [0xCB#8, 0x06#8]
  | .rlc_a => [0xCB#8, 0x07#8]
  | .rrc_b => [0xCB#8, 0x08#8]
  | .rrc_c => [0xCB#8, 0x09#8]
  | .rrc_d => [0xCB#8, 0x0A#8]
  | .rrc_e => [0xCB#8, 0x0B#8]
  | .rrc_h => [0xCB#8, 0x0C#8]
  | .rrc_l => [0xCB#8, 0x0D#8]
  | .rrc_atHL => [0xCB#8, 0x0E#8]
  | .rrc_a => [0xCB#8, 0x0F#8]
  | .rl_b => [0xCB#8, 0x10#8]
  | .rl_c => [0xCB#8, 0x11#8]
  | .rl_d => [0xCB#8, 0x12#8]
  | .rl_e => [0xCB#8, 0x13#8]
  | .rl_h => [0xCB#8, 0x14#8]
  | .rl_l => [0xCB#8, 0x15#8]
  | .rl_atHL => [0xCB#8, 0x16#8]
  | .rl_a => [0xCB#8, 0x17#8]
  | .rr_b => [0xCB#8, 0x18#8]
  | .rr_c => [0xCB#8, 0x19#8]
  | .rr_d => [0xCB#8, 0x1A#8]
  | .rr_e => [0xCB#8, 0x1B#8]
  | .rr_h => [0xCB#8, 0x1C#8]
  | .rr_l => [0xCB#8, 0x1D#8]
  | .rr_atHL => [0xCB#8, 0x1E#8]
  | .rr_a => [0xCB#8, 0x1F#8]
  | .sla_b => [0xCB#8, 0x20#8]
  | .sla_c => [0xCB#8, 0x21#8]
  | .sla_d => [0xCB#8, 0x22#8]
  | .sla_e => [0xCB#8, 0x23#8]
  | .sla_h => [0xCB#8, 0x24#8]
  | .sla_l => [0xCB#8, 0x25#8]
  | .sla_atHL => [0xCB#8, 0x26#8]
  | .sla_a => [0xCB#8, 0x27#8]
  | .sra_b => [0xCB#8, 0x28#8]
  | .sra_c => [0xCB#8, 0x29#8]
  | .sra_d => [0xCB#8, 0x2A#8]
  | .sra_e => [0xCB#8, 0x2B#8]
  | .sra_h => [0xCB#8, 0x2C#8]
  | .sra_l => [0xCB#8, 0x2D#8]
  | .sra_atHL => [0xCB#8, 0x2E#8]
  | .sra_a => [0xCB#8, 0x2F#8]
  | .swap_b => [0xCB#8, 0x30#8]
  | .swap_c => [0xCB#8, 0x31#8]
  | .swap_d => [0xCB#8, 0x32#8]
  | .swap_e => [0xCB#8, 0x33#8]
  | .swap_h => [0xCB#8, 0x34#8]
  | .swap_l => [0xCB#8, 0x35#8]
  | .swap_atHL => [0xCB#8, 0x36#8]
  | .swap_a => [0xCB#8, 0x37#8]
  | .srl_b => [0xCB#8, 0x38#8]
  | .srl_c => [0xCB#8, 0x39#8]
  | .srl_d => [0xCB#8, 0x3A#8]
  | .srl_e => [0xCB#8, 0x3B#8]
  | .srl_h => [0xCB#8, 0x3C#8]
  | .srl_l => [0xCB#8, 0x3D#8]
  | .srl_atHL => [0xCB#8, 0x3E#8]
  | .srl_a => [0xCB#8, 0x3F#8]
  | .bit_0_b => [0xCB#8, 0x40#8]
  | .bit_0_c => [0xCB#8, 0x41#8]
  | .bit_0_d => [0xCB#8, 0x42#8]
  | .bit_0_e => [0xCB#8, 0x43#8]
  | .bit_0_h => [0xCB#8, 0x44#8]
  | .bit_0_l => [0xCB#8, 0x45#8]
  | .bit_0_atHL => [0xCB#8, 0x46#8]
  | .bit_0_a => [0xCB#8, 0x47#8]
  | .bit_1_b => [0xCB#8, 0x48#8]
  | .bit_1_c => [0xCB#8, 0x49#8]
  | .bit_1_d => [0xCB#8, 0x4A#8]
  | .bit_1_e => [0xCB#8, 0x4B#8]
  | .bit_1_h => [0xCB#8, 0x4C#8]
  | .bit_1_l => [0xCB#8, 0x4D#8]
  | .bit_1_atHL => [0xCB#8, 0x4E#8]
  | .bit_1_a => [0xCB#8, 0x4F#8]
  | .bit_2_b => [0xCB#8, 0x50#8]
  | .bit_2_c => [0xCB#8, 0x51#8]
  | .bit_2_d => [0xCB#8, 0x52#8]
  | .bit_2_e => [0xCB#8, 0x53#8]
  | .bit_2_h => [0xCB#8, 0x54#8]
  | .bit_2_l => [0xCB#8, 0x55#8]
  | .bit_2_atHL => [0xCB#8, 0x56#8]
  | .bit_2_a => [0xCB#8, 0x57#8]
  | .bit_3_b => [0xCB#8, 0x58#8]
  | .bit_3_c => [0xCB#8, 0x59#8]
  | .bit_3_d => [0xCB#8, 0x5A#8]
  | .bit_3_e => [0xCB#8, 0x5B#8]
  | .bit_3_h => [0xCB#8, 0x5C#8]
  | .bit_3_l => [0xCB#8, 0x5D#8]
  | .bit_3_atHL => [0xCB#8, 0x5E#8]
  | .bit_3_a => [0xCB#8, 0x5F#8]
  | .bit_4_b => [0xCB#8, 0x60#8]
  | .bit_4_c => [0xCB#8, 0x61#8]
  | .bit_4_d => [0xCB#8, 0x62#8]
  | .bit_4_e => [0xCB#8, 0x63#8]
  | .bit_4_h => [0xCB#8, 0x64#8]
  | .bit_4_l => [0xCB#8, 0x65#8]
  | .bit_4_atHL => [0xCB#8, 0x66#8]
  | .bit_4_a => [0xCB#8, 0x67#8]
  | .bit_5_b => [0xCB#8, 0x68#8]
  | .bit_5_c => [0xCB#8, 0x69#8]
  | .bit_5_d => [0xCB#8, 0x6A#8]
  | .bit_5_e => [0xCB#8, 0x6B#8]
  | .bit_5_h => [0xCB#8, 0x6C#8]
  | .bit_5_l => [0xCB#8, 0x6D#8]
  | .bit_5_atHL => [0xCB#8, 0x6E#8]
  | .bit_5_a => [0xCB#8, 0x6F#8]
  | .bit_6_b => [0xCB#8, 0x70#8]
  | .bit_6_c => [0xCB#8, 0x71#8]
  | .bit_6_d => [0xCB#8, 0x72#8]
  | .bit_6_e => [0xCB#8, 0x73#8]
  | .bit_6_h => [0xCB#8, 0x74#8]
  | .bit_6_l => [0xCB#8, 0x75#8]
  | .bit_6_atHL => [0xCB#8, 0x76#8]
  | .bit_6_a => [0xCB#8, 0x77#8]
  | .bit_7_b => [0xCB#8, 0x78#8]
  | .bit_7_c => [0xCB#8, 0x79#8]
  | .bit_7_d => [0xCB#8, 0x7A#8]
  | .bit_7_e => [0xCB#8, 0x7B#8]
  | .bit_7_h => [0xCB#8, 0x7C#8]
  | .bit_7_l => [0xCB#8, 0x7D#8]
  | .bit_7_atHL => [0xCB#8, 0x7E#8]
  | .bit_7_a => [0xCB#8, 0x7F#8]
  | .res_0_b => [0xCB#8, 0x80#8]
  | .res_0_c => [0xCB#8, 0x81#8]
  | .res_0_d => [0xCB#8, 0x82#8]
  | .res_0_e => [0xCB#8, 0x83#8]
  | .res_0_h => [0xCB#8, 0x84#8]
  | .res_0_l => [0xCB#8, 0x85#8]
  | .res_0_atHL => [0xCB#8, 0x86#8]
  | .res_0_a => [0xCB#8, 0x87#8]
  | .res_1_b => [0xCB#8, 0x88#8]
  | .res_1_c => [0xCB#8, 0x89#8]
  | .res_1_d => [0xCB#8, 0x8A#8]
  | .res_1_e => [0xCB#8, 0x8B#8]
  | .res_1_h => [0xCB#8, 0x8C#8]
  | .res_1_l => [0xCB#8, 0x8D#8]
  | .res_1_atHL => [0xCB#8, 0x8E#8]
  | .res_1_a => [0xCB#8, 0x8F#8]
  | .res_2_b => [0xCB#8, 0x90#8]
  | .res_2_c => [0xCB#8, 0x91#8]
  | .res_2_d => [0xCB#8, 0x92#8]
  | .res_2_e => [0xCB#8, 0x93#8]
  | .res_2_h => [0xCB#8, 0x94#8]
  | .res_2_l => [0xCB#8, 0x95#8]
  | .res_2_atHL => [0xCB#8, 0x96#8]
  | .res_2_a => [0xCB#8, 0x97#8]
  | .res_3_b => [0xCB#8, 0x98#8]
  | .res_3_c => [0xCB#8, 0x99#8]
  | .res_3_d => [0xCB#8, 0x9A#8]
  | .res_3_e => [0xCB#8, 0x9B#8]
  | .res_3_h => [0xCB#8, 0x9C#8]
  | .res_3_l => [0xCB#8, 0x9D#8]
  | .res_3_atHL => [0xCB#8, 0x9E#8]
  | .res_3_a => [0xCB#8, 0x9F#8]
  | .res_4_b => [0xCB#8, 0xA0#8]
  | .res_4_c => [0xCB#8, 0xA1#8]
  | .res_4_d => [0xCB#8, 0xA2#8]
  | .res_4_e => [0xCB#8, 0xA3#8]
  | .res_4_h => [0xCB#8, 0xA4#8]
  | .res_4_l => [0xCB#8, 0xA5#8]
  | .res_4_atHL => [0xCB#8, 0xA6#8]
  | .res_4_a => [0xCB#8, 0xA7#8]
  | .res_5_b => [0xCB#8, 0xA8#8]
  | .res_5_c => [0xCB#8, 0xA9#8]
  | .res_5_d => [0xCB#8, 0xAA#8]
  | .res_5_e => [0xCB#8, 0xAB#8]
  | .res_5_h => [0xCB#8, 0xAC#8]
  | .res_5_l => [0xCB#8, 0xAD#8]
  | .res_5_atHL => [0xCB#8, 0xAE#8]
  | .res_5_a => [0xCB#8, 0xAF#8]
  | .res_6_b => [0xCB#8, 0xB0#8]
  | .res_6_c => [0xCB#8, 0xB1#8]
  | .res_6_d => [0xCB#8, 0xB2#8]
  | .res_6_e => [0xCB#8, 0xB3#8]
  | .res_6_h => [0xCB#8, 0xB4#8]
  | .res_6_l => [0xCB#8, 0xB5#8]
  | .res_6_atHL => [0xCB#8, 0xB6#8]
  | .res_6_a => [0xCB#8, 0xB7#8]
  | .res_7_b => [0xCB#8, 0xB8#8]
  | .res_7_c => [0xCB#8, 0xB9#8]
  | .res_7_d => [0xCB#8, 0xBA#8]
  | .res_7_e => [0xCB#8, 0xBB#8]
  | .res_7_h => [0xCB#8, 0xBC#8]
  | .res_7_l => [0xCB#8, 0xBD#8]
  | .res_7_atHL => [0xCB#8, 0xBE#8]
  | .res_7_a => [0xCB#8, 0xBF#8]
  | .set_0_b => [0xCB#8, 0xC0#8]
  | .set_0_c => [0xCB#8, 0xC1#8]
  | .set_0_d => [0xCB#8, 0xC2#8]
  | .set_0_e => [0xCB#8, 0xC3#8]
  | .set_0_h => [0xCB#8, 0xC4#8]
  | .set_0_l => [0xCB#8, 0xC5#8]
  | .set_0_atHL => [0xCB#8, 0xC6#8]
  | .set_0_a => [0xCB#8, 0xC7#8]
  | .set_1_b => [0xCB#8, 0xC8#8]
  | .set_1_c => [0xCB#8, 0xC9#8]
  | .set_1_d => [0xCB#8, 0xCA#8]
  | .set_1_e => [0xCB#8, 0xCB#8]
  | .set_1_h => [0xCB#8, 0xCC#8]
  | .set_1_l => [0xCB#8, 0xCD#8]
  | .set_1_atHL => [0xCB#8, 0xCE#8]
  | .set_1_a => [0xCB#8, 0xCF#8]
  | .set_2_b => [0xCB#8, 0xD0#8]
  | .set_2_c => [0xCB#8, 0xD1#8]
  | .set_2_d => [0xCB#8, 0xD2#8]
  | .set_2_e => [0xCB#8, 0xD3#8]
  | .set_2_h => [0xCB#8, 0xD4#8]
  | .set_2_l => [0xCB#8, 0xD5#8]
  | .set_2_atHL => [0xCB#8, 0xD6#8]
  | .set_2_a => [0xCB#8, 0xD7#8]
  | .set_3_b => [0xCB#8, 0xD8#8]
  | .set_3_c => [0xCB#8, 0xD9#8]
  | .set_3_d => [0xCB#8, 0xDA#8]
  | .set_3_e => [0xCB#8, 0xDB#8]
  | .set_3_h => [0xCB#8, 0xDC#8]
  | .set_3_l => [0xCB#8, 0xDD#8]
  | .set_3_atHL => [0xCB#8, 0xDE#8]
  | .set_3_a => [0xCB#8, 0xDF#8]
  | .set_4_b => [0xCB#8, 0xE0#8]
  | .set_4_c => [0xCB#8, 0xE1#8]
  | .set_4_d => [0xCB#8, 0xE2#8]
  | .set_4_e => [0xCB#8, 0xE3#8]
  | .set_4_h => [0xCB#8, 0xE4#8]
  | .set_4_l => [0xCB#8, 0xE5#8]
  | .set_4_atHL => [0xCB#8, 0xE6#8]
  | .set_4_a => [0xCB#8, 0xE7#8]
  | .set_5_b => [0xCB#8, 0xE8#8]
  | .set_5_c => [0xCB#8, 0xE9#8]
  | .set_5_d => [0xCB#8, 0xEA#8]
  | .set_5_e => [0xCB#8, 0xEB#8]
  | .set_5_h => [0xCB#8, 0xEC#8]
  | .set_5_l => [0xCB#8, 0xED#8]
  | .set_5_atHL => [0xCB#8, 0xEE#8]
  | .set_5_a => [0xCB#8, 0xEF#8]
  | .set_6_b => [0xCB#8, 0xF0#8]
  | .set_6_c => [0xCB#8, 0xF1#8]
  | .set_6_d => [0xCB#8, 0xF2#8]
  | .set_6_e => [0xCB#8, 0xF3#8]
  | .set_6_h => [0xCB#8, 0xF4#8]
  | .set_6_l => [0xCB#8, 0xF5#8]
  | .set_6_atHL => [0xCB#8, 0xF6#8]
  | .set_6_a => [0xCB#8, 0xF7#8]
  | .set_7_b => [0xCB#8, 0xF8#8]
  | .set_7_c => [0xCB#8, 0xF9#8]
  | .set_7_d => [0xCB#8, 0xFA#8]
  | .set_7_e => [0xCB#8, 0xFB#8]
  | .set_7_h => [0xCB#8, 0xFC#8]
  | .set_7_l => [0xCB#8, 0xFD#8]
  | .set_7_atHL => [0xCB#8, 0xFE#8]
  | .set_7_a => [0xCB#8, 0xFF#8]

/-! ### Families of the opcode table by operand code (R93 to R97) -/

/-- `LD r,r'` (R120). -/
def ldRegReg : Reg → Reg → Instr
  | .b, .b => .ld_b_b
  | .b, .c => .ld_b_c
  | .b, .d => .ld_b_d
  | .b, .e => .ld_b_e
  | .b, .h => .ld_b_h
  | .b, .l => .ld_b_l
  | .b, .a => .ld_b_a
  | .c, .b => .ld_c_b
  | .c, .c => .ld_c_c
  | .c, .d => .ld_c_d
  | .c, .e => .ld_c_e
  | .c, .h => .ld_c_h
  | .c, .l => .ld_c_l
  | .c, .a => .ld_c_a
  | .d, .b => .ld_d_b
  | .d, .c => .ld_d_c
  | .d, .d => .ld_d_d
  | .d, .e => .ld_d_e
  | .d, .h => .ld_d_h
  | .d, .l => .ld_d_l
  | .d, .a => .ld_d_a
  | .e, .b => .ld_e_b
  | .e, .c => .ld_e_c
  | .e, .d => .ld_e_d
  | .e, .e => .ld_e_e
  | .e, .h => .ld_e_h
  | .e, .l => .ld_e_l
  | .e, .a => .ld_e_a
  | .h, .b => .ld_h_b
  | .h, .c => .ld_h_c
  | .h, .d => .ld_h_d
  | .h, .e => .ld_h_e
  | .h, .h => .ld_h_h
  | .h, .l => .ld_h_l
  | .h, .a => .ld_h_a
  | .l, .b => .ld_l_b
  | .l, .c => .ld_l_c
  | .l, .d => .ld_l_d
  | .l, .e => .ld_l_e
  | .l, .h => .ld_l_h
  | .l, .l => .ld_l_l
  | .l, .a => .ld_l_a
  | .a, .b => .ld_a_b
  | .a, .c => .ld_a_c
  | .a, .d => .ld_a_d
  | .a, .e => .ld_a_e
  | .a, .h => .ld_a_h
  | .a, .l => .ld_a_l
  | .a, .a => .ld_a_a

/-- `LD r,d8` (R121). -/
def ldRegImm : Reg → Byte → Instr
  | .b, v => .ld_b_d8 v
  | .c, v => .ld_c_d8 v
  | .d, v => .ld_d_d8 v
  | .e, v => .ld_e_d8 v
  | .h, v => .ld_h_d8 v
  | .l, v => .ld_l_d8 v
  | .a, v => .ld_a_d8 v

/-- `LD r,(HL)` (R122). -/
def ldRegAtHL : Reg → Instr
  | .b => .ld_b_atHL
  | .c => .ld_c_atHL
  | .d => .ld_d_atHL
  | .e => .ld_e_atHL
  | .h => .ld_h_atHL
  | .l => .ld_l_atHL
  | .a => .ld_a_atHL

/-- `LD (HL),r` (R123). -/
def ldAtHLReg : Reg → Instr
  | .b => .ld_atHL_b
  | .c => .ld_atHL_c
  | .d => .ld_atHL_d
  | .e => .ld_atHL_e
  | .h => .ld_atHL_h
  | .l => .ld_atHL_l
  | .a => .ld_atHL_a

/-- `LD rr,d16` (R160). -/
def ldPairImm : Pair → Word → Instr
  | .bc, v => .ld_bc_d16 v
  | .de, v => .ld_de_d16 v
  | .hl, v => .ld_hl_d16 v
  | .sp, v => .ld_sp_d16 v

/-- `alu r` and `alu (HL)` (R180). -/
def aluOperand : AluOp → Operand8 → Instr
  | .add, .reg .b => .add_a_b
  | .add, .reg .c => .add_a_c
  | .add, .reg .d => .add_a_d
  | .add, .reg .e => .add_a_e
  | .add, .reg .h => .add_a_h
  | .add, .reg .l => .add_a_l
  | .add, .atHL => .add_a_atHL
  | .add, .reg .a => .add_a_a
  | .adc, .reg .b => .adc_a_b
  | .adc, .reg .c => .adc_a_c
  | .adc, .reg .d => .adc_a_d
  | .adc, .reg .e => .adc_a_e
  | .adc, .reg .h => .adc_a_h
  | .adc, .reg .l => .adc_a_l
  | .adc, .atHL => .adc_a_atHL
  | .adc, .reg .a => .adc_a_a
  | .sub, .reg .b => .sub_b
  | .sub, .reg .c => .sub_c
  | .sub, .reg .d => .sub_d
  | .sub, .reg .e => .sub_e
  | .sub, .reg .h => .sub_h
  | .sub, .reg .l => .sub_l
  | .sub, .atHL => .sub_atHL
  | .sub, .reg .a => .sub_a
  | .sbc, .reg .b => .sbc_a_b
  | .sbc, .reg .c => .sbc_a_c
  | .sbc, .reg .d => .sbc_a_d
  | .sbc, .reg .e => .sbc_a_e
  | .sbc, .reg .h => .sbc_a_h
  | .sbc, .reg .l => .sbc_a_l
  | .sbc, .atHL => .sbc_a_atHL
  | .sbc, .reg .a => .sbc_a_a
  | .and, .reg .b => .and_b
  | .and, .reg .c => .and_c
  | .and, .reg .d => .and_d
  | .and, .reg .e => .and_e
  | .and, .reg .h => .and_h
  | .and, .reg .l => .and_l
  | .and, .atHL => .and_atHL
  | .and, .reg .a => .and_a
  | .xor, .reg .b => .xor_b
  | .xor, .reg .c => .xor_c
  | .xor, .reg .d => .xor_d
  | .xor, .reg .e => .xor_e
  | .xor, .reg .h => .xor_h
  | .xor, .reg .l => .xor_l
  | .xor, .atHL => .xor_atHL
  | .xor, .reg .a => .xor_a
  | .or, .reg .b => .or_b
  | .or, .reg .c => .or_c
  | .or, .reg .d => .or_d
  | .or, .reg .e => .or_e
  | .or, .reg .h => .or_h
  | .or, .reg .l => .or_l
  | .or, .atHL => .or_atHL
  | .or, .reg .a => .or_a
  | .cp, .reg .b => .cp_b
  | .cp, .reg .c => .cp_c
  | .cp, .reg .d => .cp_d
  | .cp, .reg .e => .cp_e
  | .cp, .reg .h => .cp_h
  | .cp, .reg .l => .cp_l
  | .cp, .atHL => .cp_atHL
  | .cp, .reg .a => .cp_a

/-- `alu d8` (R180). -/
def aluImm : AluOp → Byte → Instr
  | .add, v => .add_a_d8 v
  | .adc, v => .adc_a_d8 v
  | .sub, v => .sub_d8 v
  | .sbc, v => .sbc_a_d8 v
  | .and, v => .and_d8 v
  | .xor, v => .xor_d8 v
  | .or, v => .or_d8 v
  | .cp, v => .cp_d8 v

/-- `INC r` and `INC (HL)` (R189, R191). -/
def incOperand : Operand8 → Instr
  | .reg .b => .inc_b
  | .reg .c => .inc_c
  | .reg .d => .inc_d
  | .reg .e => .inc_e
  | .reg .h => .inc_h
  | .reg .l => .inc_l
  | .atHL => .inc_atHL
  | .reg .a => .inc_a

/-- `DEC r` and `DEC (HL)` (R190, R192). -/
def decOperand : Operand8 → Instr
  | .reg .b => .dec_b
  | .reg .c => .dec_c
  | .reg .d => .dec_d
  | .reg .e => .dec_e
  | .reg .h => .dec_h
  | .reg .l => .dec_l
  | .atHL => .dec_atHL
  | .reg .a => .dec_a

/-- `ADD HL,rr` (R220). -/
def addHLPair : Pair → Instr
  | .bc => .add_hl_bc
  | .de => .add_hl_de
  | .hl => .add_hl_hl
  | .sp => .add_hl_sp

/-- `INC rr` (R221). -/
def incPair : Pair → Instr
  | .bc => .inc_bc
  | .de => .inc_de
  | .hl => .inc_hl
  | .sp => .inc_sp

/-- `DEC rr` (R222). -/
def decPair : Pair → Instr
  | .bc => .dec_bc
  | .de => .dec_de
  | .hl => .dec_hl
  | .sp => .dec_sp

/-- `PUSH rr` (R163). -/
def pushPair : StackPair → Instr
  | .bc => .push_bc
  | .de => .push_de
  | .hl => .push_hl
  | .af => .push_af

/-- `POP rr` (R164). -/
def popPair : StackPair → Instr
  | .bc => .pop_bc
  | .de => .pop_de
  | .hl => .pop_hl
  | .af => .pop_af

/-- `JR cc,e8` (R235). -/
def jrCond : Cond → Byte → Instr
  | .nz, v => .jr_nz_e8 v
  | .z, v => .jr_z_e8 v
  | .nc, v => .jr_nc_e8 v
  | .c, v => .jr_c_e8 v

/-- `JP cc,a16` (R232). -/
def jpCond : Cond → Word → Instr
  | .nz, v => .jp_nz_a16 v
  | .z, v => .jp_z_a16 v
  | .nc, v => .jp_nc_a16 v
  | .c, v => .jp_c_a16 v

/-- `CALL cc,a16` (R237). -/
def callCond : Cond → Word → Instr
  | .nz, v => .call_nz_a16 v
  | .z, v => .call_z_a16 v
  | .nc, v => .call_nc_a16 v
  | .c, v => .call_c_a16 v

/-- `RET cc` (R239). -/
def retCond : Cond → Instr
  | .nz => .ret_nz
  | .z => .ret_z
  | .nc => .ret_nc
  | .c => .ret_c

/-- `RST 8*y` (R240). -/
def rst : Fin 8 → Instr
  | 0 => .rst_00
  | 1 => .rst_08
  | 2 => .rst_10
  | 3 => .rst_18
  | 4 => .rst_20
  | 5 => .rst_28
  | 6 => .rst_30
  | 7 => .rst_38

/-- The rotates and shifts of the extended table (R97, R265 to R272). -/
def rotOperand : RotOp → Operand8 → Instr
  | .rlc, .reg .b => .rlc_b
  | .rlc, .reg .c => .rlc_c
  | .rlc, .reg .d => .rlc_d
  | .rlc, .reg .e => .rlc_e
  | .rlc, .reg .h => .rlc_h
  | .rlc, .reg .l => .rlc_l
  | .rlc, .atHL => .rlc_atHL
  | .rlc, .reg .a => .rlc_a
  | .rrc, .reg .b => .rrc_b
  | .rrc, .reg .c => .rrc_c
  | .rrc, .reg .d => .rrc_d
  | .rrc, .reg .e => .rrc_e
  | .rrc, .reg .h => .rrc_h
  | .rrc, .reg .l => .rrc_l
  | .rrc, .atHL => .rrc_atHL
  | .rrc, .reg .a => .rrc_a
  | .rl, .reg .b => .rl_b
  | .rl, .reg .c => .rl_c
  | .rl, .reg .d => .rl_d
  | .rl, .reg .e => .rl_e
  | .rl, .reg .h => .rl_h
  | .rl, .reg .l => .rl_l
  | .rl, .atHL => .rl_atHL
  | .rl, .reg .a => .rl_a
  | .rr, .reg .b => .rr_b
  | .rr, .reg .c => .rr_c
  | .rr, .reg .d => .rr_d
  | .rr, .reg .e => .rr_e
  | .rr, .reg .h => .rr_h
  | .rr, .reg .l => .rr_l
  | .rr, .atHL => .rr_atHL
  | .rr, .reg .a => .rr_a
  | .sla, .reg .b => .sla_b
  | .sla, .reg .c => .sla_c
  | .sla, .reg .d => .sla_d
  | .sla, .reg .e => .sla_e
  | .sla, .reg .h => .sla_h
  | .sla, .reg .l => .sla_l
  | .sla, .atHL => .sla_atHL
  | .sla, .reg .a => .sla_a
  | .sra, .reg .b => .sra_b
  | .sra, .reg .c => .sra_c
  | .sra, .reg .d => .sra_d
  | .sra, .reg .e => .sra_e
  | .sra, .reg .h => .sra_h
  | .sra, .reg .l => .sra_l
  | .sra, .atHL => .sra_atHL
  | .sra, .reg .a => .sra_a
  | .swap, .reg .b => .swap_b
  | .swap, .reg .c => .swap_c
  | .swap, .reg .d => .swap_d
  | .swap, .reg .e => .swap_e
  | .swap, .reg .h => .swap_h
  | .swap, .reg .l => .swap_l
  | .swap, .atHL => .swap_atHL
  | .swap, .reg .a => .swap_a
  | .srl, .reg .b => .srl_b
  | .srl, .reg .c => .srl_c
  | .srl, .reg .d => .srl_d
  | .srl, .reg .e => .srl_e
  | .srl, .reg .h => .srl_h
  | .srl, .reg .l => .srl_l
  | .srl, .atHL => .srl_atHL
  | .srl, .reg .a => .srl_a

/-- `BIT b,x` (R273). -/
def bitOperand : Fin 8 → Operand8 → Instr
  | 0, .reg .b => .bit_0_b
  | 0, .reg .c => .bit_0_c
  | 0, .reg .d => .bit_0_d
  | 0, .reg .e => .bit_0_e
  | 0, .reg .h => .bit_0_h
  | 0, .reg .l => .bit_0_l
  | 0, .atHL => .bit_0_atHL
  | 0, .reg .a => .bit_0_a
  | 1, .reg .b => .bit_1_b
  | 1, .reg .c => .bit_1_c
  | 1, .reg .d => .bit_1_d
  | 1, .reg .e => .bit_1_e
  | 1, .reg .h => .bit_1_h
  | 1, .reg .l => .bit_1_l
  | 1, .atHL => .bit_1_atHL
  | 1, .reg .a => .bit_1_a
  | 2, .reg .b => .bit_2_b
  | 2, .reg .c => .bit_2_c
  | 2, .reg .d => .bit_2_d
  | 2, .reg .e => .bit_2_e
  | 2, .reg .h => .bit_2_h
  | 2, .reg .l => .bit_2_l
  | 2, .atHL => .bit_2_atHL
  | 2, .reg .a => .bit_2_a
  | 3, .reg .b => .bit_3_b
  | 3, .reg .c => .bit_3_c
  | 3, .reg .d => .bit_3_d
  | 3, .reg .e => .bit_3_e
  | 3, .reg .h => .bit_3_h
  | 3, .reg .l => .bit_3_l
  | 3, .atHL => .bit_3_atHL
  | 3, .reg .a => .bit_3_a
  | 4, .reg .b => .bit_4_b
  | 4, .reg .c => .bit_4_c
  | 4, .reg .d => .bit_4_d
  | 4, .reg .e => .bit_4_e
  | 4, .reg .h => .bit_4_h
  | 4, .reg .l => .bit_4_l
  | 4, .atHL => .bit_4_atHL
  | 4, .reg .a => .bit_4_a
  | 5, .reg .b => .bit_5_b
  | 5, .reg .c => .bit_5_c
  | 5, .reg .d => .bit_5_d
  | 5, .reg .e => .bit_5_e
  | 5, .reg .h => .bit_5_h
  | 5, .reg .l => .bit_5_l
  | 5, .atHL => .bit_5_atHL
  | 5, .reg .a => .bit_5_a
  | 6, .reg .b => .bit_6_b
  | 6, .reg .c => .bit_6_c
  | 6, .reg .d => .bit_6_d
  | 6, .reg .e => .bit_6_e
  | 6, .reg .h => .bit_6_h
  | 6, .reg .l => .bit_6_l
  | 6, .atHL => .bit_6_atHL
  | 6, .reg .a => .bit_6_a
  | 7, .reg .b => .bit_7_b
  | 7, .reg .c => .bit_7_c
  | 7, .reg .d => .bit_7_d
  | 7, .reg .e => .bit_7_e
  | 7, .reg .h => .bit_7_h
  | 7, .reg .l => .bit_7_l
  | 7, .atHL => .bit_7_atHL
  | 7, .reg .a => .bit_7_a

/-- `RES b,x` (R274). -/
def resOperand : Fin 8 → Operand8 → Instr
  | 0, .reg .b => .res_0_b
  | 0, .reg .c => .res_0_c
  | 0, .reg .d => .res_0_d
  | 0, .reg .e => .res_0_e
  | 0, .reg .h => .res_0_h
  | 0, .reg .l => .res_0_l
  | 0, .atHL => .res_0_atHL
  | 0, .reg .a => .res_0_a
  | 1, .reg .b => .res_1_b
  | 1, .reg .c => .res_1_c
  | 1, .reg .d => .res_1_d
  | 1, .reg .e => .res_1_e
  | 1, .reg .h => .res_1_h
  | 1, .reg .l => .res_1_l
  | 1, .atHL => .res_1_atHL
  | 1, .reg .a => .res_1_a
  | 2, .reg .b => .res_2_b
  | 2, .reg .c => .res_2_c
  | 2, .reg .d => .res_2_d
  | 2, .reg .e => .res_2_e
  | 2, .reg .h => .res_2_h
  | 2, .reg .l => .res_2_l
  | 2, .atHL => .res_2_atHL
  | 2, .reg .a => .res_2_a
  | 3, .reg .b => .res_3_b
  | 3, .reg .c => .res_3_c
  | 3, .reg .d => .res_3_d
  | 3, .reg .e => .res_3_e
  | 3, .reg .h => .res_3_h
  | 3, .reg .l => .res_3_l
  | 3, .atHL => .res_3_atHL
  | 3, .reg .a => .res_3_a
  | 4, .reg .b => .res_4_b
  | 4, .reg .c => .res_4_c
  | 4, .reg .d => .res_4_d
  | 4, .reg .e => .res_4_e
  | 4, .reg .h => .res_4_h
  | 4, .reg .l => .res_4_l
  | 4, .atHL => .res_4_atHL
  | 4, .reg .a => .res_4_a
  | 5, .reg .b => .res_5_b
  | 5, .reg .c => .res_5_c
  | 5, .reg .d => .res_5_d
  | 5, .reg .e => .res_5_e
  | 5, .reg .h => .res_5_h
  | 5, .reg .l => .res_5_l
  | 5, .atHL => .res_5_atHL
  | 5, .reg .a => .res_5_a
  | 6, .reg .b => .res_6_b
  | 6, .reg .c => .res_6_c
  | 6, .reg .d => .res_6_d
  | 6, .reg .e => .res_6_e
  | 6, .reg .h => .res_6_h
  | 6, .reg .l => .res_6_l
  | 6, .atHL => .res_6_atHL
  | 6, .reg .a => .res_6_a
  | 7, .reg .b => .res_7_b
  | 7, .reg .c => .res_7_c
  | 7, .reg .d => .res_7_d
  | 7, .reg .e => .res_7_e
  | 7, .reg .h => .res_7_h
  | 7, .reg .l => .res_7_l
  | 7, .atHL => .res_7_atHL
  | 7, .reg .a => .res_7_a

/-- `SET b,x` (R275). -/
def setOperand : Fin 8 → Operand8 → Instr
  | 0, .reg .b => .set_0_b
  | 0, .reg .c => .set_0_c
  | 0, .reg .d => .set_0_d
  | 0, .reg .e => .set_0_e
  | 0, .reg .h => .set_0_h
  | 0, .reg .l => .set_0_l
  | 0, .atHL => .set_0_atHL
  | 0, .reg .a => .set_0_a
  | 1, .reg .b => .set_1_b
  | 1, .reg .c => .set_1_c
  | 1, .reg .d => .set_1_d
  | 1, .reg .e => .set_1_e
  | 1, .reg .h => .set_1_h
  | 1, .reg .l => .set_1_l
  | 1, .atHL => .set_1_atHL
  | 1, .reg .a => .set_1_a
  | 2, .reg .b => .set_2_b
  | 2, .reg .c => .set_2_c
  | 2, .reg .d => .set_2_d
  | 2, .reg .e => .set_2_e
  | 2, .reg .h => .set_2_h
  | 2, .reg .l => .set_2_l
  | 2, .atHL => .set_2_atHL
  | 2, .reg .a => .set_2_a
  | 3, .reg .b => .set_3_b
  | 3, .reg .c => .set_3_c
  | 3, .reg .d => .set_3_d
  | 3, .reg .e => .set_3_e
  | 3, .reg .h => .set_3_h
  | 3, .reg .l => .set_3_l
  | 3, .atHL => .set_3_atHL
  | 3, .reg .a => .set_3_a
  | 4, .reg .b => .set_4_b
  | 4, .reg .c => .set_4_c
  | 4, .reg .d => .set_4_d
  | 4, .reg .e => .set_4_e
  | 4, .reg .h => .set_4_h
  | 4, .reg .l => .set_4_l
  | 4, .atHL => .set_4_atHL
  | 4, .reg .a => .set_4_a
  | 5, .reg .b => .set_5_b
  | 5, .reg .c => .set_5_c
  | 5, .reg .d => .set_5_d
  | 5, .reg .e => .set_5_e
  | 5, .reg .h => .set_5_h
  | 5, .reg .l => .set_5_l
  | 5, .atHL => .set_5_atHL
  | 5, .reg .a => .set_5_a
  | 6, .reg .b => .set_6_b
  | 6, .reg .c => .set_6_c
  | 6, .reg .d => .set_6_d
  | 6, .reg .e => .set_6_e
  | 6, .reg .h => .set_6_h
  | 6, .reg .l => .set_6_l
  | 6, .atHL => .set_6_atHL
  | 6, .reg .a => .set_6_a
  | 7, .reg .b => .set_7_b
  | 7, .reg .c => .set_7_c
  | 7, .reg .d => .set_7_d
  | 7, .reg .e => .set_7_e
  | 7, .reg .h => .set_7_h
  | 7, .reg .l => .set_7_l
  | 7, .atHL => .set_7_atHL
  | 7, .reg .a => .set_7_a

/-! ### The field structure of the tables (R98, R264) -/

/-- The field `op[hi:lo]` of `len` bits as a number (R6). -/
def field (op : Byte) (lo len : Nat) : Nat := (op.toNat / 2 ^ lo) % 2 ^ len

/-- `r8[i]` (R93). -/
def operandOfCode (i : Nat) : Operand8 :=
  match i with
  | 0 => .reg .b
  | 1 => .reg .c
  | 2 => .reg .d
  | 3 => .reg .e
  | 4 => .reg .h
  | 5 => .reg .l
  | 6 => .atHL
  | _ => .reg .a

/-- `rr[p]` (R94). -/
def pairOfCode (p : Nat) : Pair :=
  match p with
  | 0 => .bc
  | 1 => .de
  | 2 => .hl
  | _ => .sp

/-- `rr2[p]` (R94). -/
def stackPairOfCode (p : Nat) : StackPair :=
  match p with
  | 0 => .bc
  | 1 => .de
  | 2 => .hl
  | _ => .af

/-- `cc` (R95). -/
def condOfCode (c : Nat) : Cond :=
  match c with
  | 0 => .nz
  | 1 => .z
  | 2 => .nc
  | _ => .c

/-- The 8-bit ALU operation (R96). -/
def aluOfCode (y : Nat) : AluOp :=
  match y with
  | 0 => .add
  | 1 => .adc
  | 2 => .sub
  | 3 => .sbc
  | 4 => .and
  | 5 => .xor
  | 6 => .or
  | _ => .cp

/-- The rotate or shift operation (R97). -/
def rotOfCode (y : Nat) : RotOp :=
  match y with
  | 0 => .rlc
  | 1 => .rrc
  | 2 => .rl
  | 3 => .rr
  | 4 => .sla
  | 5 => .sra
  | 6 => .swap
  | _ => .srl

/-- A 3-bit field as a bit number or an `RST` index. -/
def fin8 (y : Nat) : Fin 8 := Fin.ofNat 8 y

/-- The extended table by fields of the second byte (R105, R264). -/
def decodeExtendedByFields (op2 : Byte) : Instr :=
  let y := field op2 3 3
  let o := operandOfCode (field op2 0 3)
  match field op2 6 2 with
  | 0 => rotOperand (rotOfCode y) o
  | 1 => bitOperand (fin8 y) o
  | 2 => resOperand (fin8 y) o
  | _ => setOperand (fin8 y) o

/-- `LD r8[y],r8[z]` with the `(HL)` forms of R122 and R123; `y = z = 6` is the unhandled HALT (R101). -/
def ldOperands (y z : Operand8) : Instr :=
  match y, z with
  | .reg dst, .reg src => ldRegReg dst src
  | .reg dst, .atHL => ldRegAtHL dst
  | .atHL, .reg src => ldAtHLReg src
  | .atHL, .atHL => .unhandled_halt

/-- `LD r8[y],d8` with the `(HL)` form of R124. -/
def ldOperandImm (y : Operand8) (v : Byte) : Instr :=
  match y with
  | .reg dst => ldRegImm dst v
  | .atHL => .ld_atHL_d8 v

/-- The block `x = 0` of R98. -/
def decodeBlock0 (y z : Nat) (b1 b2 : Byte) : Instr :=
  let p := y / 2
  let q := y % 2
  match z with
  | 0 =>
    match y with
    | 0 => .nop
    | 1 => .ld_at16_sp (word16 b2 b1)
    | 2 => .unhandled_stop
    | 3 => .jr_e8 b1
    | _ => jrCond (condOfCode (y - 4)) b1
  | 1 => if q = 0 then ldPairImm (pairOfCode p) (word16 b2 b1) else addHLPair (pairOfCode p)
  | 2 =>
    match q, p with
    | 0, 0 => .ld_atBC_a
    | 0, 1 => .ld_atDE_a
    | 0, 2 => .ld_atHLI_a
    | 0, _ => .ld_atHLD_a
    | _, 0 => .ld_a_atBC
    | _, 1 => .ld_a_atDE
    | _, 2 => .ld_a_atHLI
    | _, _ => .ld_a_atHLD
  | 3 => if q = 0 then incPair (pairOfCode p) else decPair (pairOfCode p)
  | 4 => incOperand (operandOfCode y)
  | 5 => decOperand (operandOfCode y)
  | 6 => ldOperandImm (operandOfCode y) b1
  | _ =>
    match y with
    | 0 => .rlca
    | 1 => .rrca
    | 2 => .rla
    | 3 => .rra
    | 4 => .daa
    | 5 => .cpl
    | 6 => .scf
    | _ => .ccf

/-- The block `x = 3` of R98. -/
def decodeBlock3 (y z : Nat) (b1 b2 : Byte) : Instr :=
  let p := y / 2
  let q := y % 2
  match z with
  | 0 =>
    match y with
    | 4 => .ldh_at8_a b1
    | 5 => .add_sp_e8 b1
    | 6 => .ldh_a_at8 b1
    | 7 => .ld_hl_sp_e8 b1
    | _ => retCond (condOfCode y)
  | 1 =>
    match q, p with
    | 0, _ => popPair (stackPairOfCode p)
    | _, 0 => .ret
    | _, 1 => .unhandled_reti
    | _, 2 => .jp_hl
    | _, _ => .ld_sp_hl
  | 2 =>
    match y with
    | 4 => .ld_atC_a
    | 5 => .ld_at16_a (word16 b2 b1)
    | 6 => .ld_a_atC
    | 7 => .ld_a_at16 (word16 b2 b1)
    | _ => jpCond (condOfCode y) (word16 b2 b1)
  | 3 =>
    match y with
    | 0 => .jp_a16 (word16 b2 b1)
    | 1 => decodeExtendedByFields b1
    | 2 => .unhandled_D3
    | 3 => .unhandled_DB
    | 4 => .unhandled_E3
    | 5 => .unhandled_EB
    | 6 => .unhandled_di
    | _ => .unhandled_ei
  | 4 =>
    match y with
    | 4 => .unhandled_E4
    | 5 => .unhandled_EC
    | 6 => .unhandled_F4
    | 7 => .unhandled_FC
    | _ => callCond (condOfCode y) (word16 b2 b1)
  | 5 =>
    match q, p with
    | 0, _ => pushPair (stackPairOfCode p)
    | _, 0 => .call_a16 (word16 b2 b1)
    | _, 1 => .unhandled_DD
    | _, 2 => .unhandled_ED
    | _, _ => .unhandled_FD
  | 6 => aluImm (aluOfCode y) b1
  | _ => rst (fin8 y)

/-- The main table by its fields x, y, z, p, q (R98). -/
def decodeByFields (op b1 b2 : Byte) : Instr :=
  let y := field op 3 3
  let z := field op 0 3
  match field op 6 2 with
  | 0 => decodeBlock0 y z b1 b2
  | 1 => ldOperands (operandOfCode y) (operandOfCode z)
  | 2 => aluOperand (aluOfCode y) (operandOfCode z)
  | _ => decodeBlock3 y z b1 b2

end Sys2Proof
end

