-- ==== Sys2Proof/Machine/State.lean ====
section
/-! DEFINITION. The state of the core (spec `10_state.md`), its reset, and the reasons a step can stop. -/

namespace Sys2Proof.Machine

/-- `mem` (R30): the bytes of the address space, as (address, byte) pairs. An address that is not listed reads as
`Config.unlistedByte` (log 2, log 11). -/
abbrev Memory := List Host.Cell

/-- `a` lies below the first address of `m`. -/
def Memory.below (a : Nat) (m : Memory) : Bool :=
  match m with
  | [] => true
  | c :: _ => a < c.1

/-- The canonical form: addresses strictly rising and inside the address space, no entry equal to what the address reads as
when it is not listed. -/
def Memory.wf (m : Memory) : Bool :=
  match m with
  | [] => true
  | c :: rest => c.1 < 65536 && c.2 != Config.unlistedByte c.1 && Memory.below c.1 rest && Memory.wf rest

/-- The four states of the scanline machine (R31). -/
inductive PpuMode where
  | objectSearch | pixelTransfer | hBlank | vBlank
  deriving DecidableEq, Repr

/-- The four states of the tile fetcher (R32). -/
inductive FetchState where
  | readTileIndex | readLowPlane | readHighPlane | pushToFifo
  deriving DecidableEq, Repr

/-- `pix[0..7]` (R32): the decoded pixels of a tile line, `p0` the leftmost. -/
structure PixelRow where
  p0 : Pixel
  p1 : Pixel
  p2 : Pixel
  p3 : Pixel
  p4 : Pixel
  p5 : Pixel
  p6 : Pixel
  p7 : Pixel
  deriving DecidableEq, Repr

/-- One call on the display sink (R35, R306). -/
inductive SinkCall where
  | pixel (p : Pixel)
  | endOfLine
  | endOfFrame
  deriving DecidableEq, Repr

/-- The PPU pipeline: scanline machine (R31), tile fetcher (R32), pixel FIFO (R33), and its outputs (R35).
The counters are the spec's natural numbers (log 13). -/
structure Ppu where
  /-- `state` of R31. -/
  mode : PpuMode
  ticks : Nat
  ly : Nat
  x : Nat
  fstate : FetchState
  fticks : Nat
  tileIndex : Nat
  tileLine : Nat
  tileId : Byte
  mapAddr : Word
  pix : PixelRow
  /-- Oldest first (R33). -/
  fifo : List Pixel
  /-- The diagnostic counter of FIFO capacity violations (R35, R338). -/
  violations : Nat
  /-- The display-sink trace, oldest call first (R35, log 15). -/
  sink : List SinkCall
  deriving DecidableEq, Repr

/-- The run status (R34). -/
inductive RunStatus where
  | running
  | faulted (table : OpcodeTable) (opcode : Byte) (pc : Word)
  deriving DecidableEq, Repr

/-- The whole machine: CPU registers (R20 to R28), the shared memory (R30), the PPU pipeline (R31 to R33, R35), the run
status (R34). -/
structure State where
  a : Byte
  b : Byte
  c : Byte
  d : Byte
  e : Byte
  h : Byte
  l : Byte
  /-- The flag register (R24). -/
  f : Byte
  pc : Word
  sp : Word
  mem : Memory
  ppu : Ppu
  status : RunStatus
  deriving DecidableEq, Repr

/-- Why the machine stops. -/
inductive Fault where
  /-- Raised by `step` alone, from a state whose run status is `Faulted` (R34, R363: "the machine has no transition out of
  `Faulted`"); carries the fault record of R361. Safe: the hardware performs nothing either. -/
  | runEnded (table : OpcodeTable) (opcode : Byte) (pc : Word)
  deriving DecidableEq, Repr

/-- Why an instruction has no meaning in the model. -/
inductive Refusal where
  /-- Raised by an arm of `exec` for an instruction that is not modelled yet; no arm does. Safe. -/
  | notModelled (mnemonic : String)
  deriving DecidableEq, Repr

/-- What an instruction answers. -/
abbrev Result := Host.Outcome State Fault Refusal

/-- Eight pixels of code 0 (R38). -/
def PixelRow.zero : PixelRow := ⟨0, 0, 0, 0, 0, 0, 0, 0⟩

/-- The PPU pipeline after reset (R37 to R39, R41). -/
def Ppu.reset : Ppu where
  mode := .objectSearch
  ticks := 0
  ly := 0
  x := 0
  fstate := .readTileIndex
  fticks := 0
  tileIndex := 0
  tileLine := 0
  tileId := 0
  mapAddr := 0
  pix := PixelRow.zero
  fifo := []
  violations := 0
  sink := []

/-- The machine right after reset (R36 to R41, R390): the first three bytes of the boot image are the spec's, every other
byte of memory is `Config.memInitByte` (DESIGN CHOICE, log 2, log 3). -/
def State.reset : State where
  a := 0
  b := 0
  c := 0
  d := 0
  e := 0
  h := 0
  l := 0
  f := 0
  pc := 0
  sp := 0
  mem := []
  ppu := Ppu.reset
  status := .running

/-- The entries for the `n` addresses from `a` on of a memory that holds `g x` at address `x`. -/
def Memory.bytesFrom (g : Nat → Byte) (a n : Nat) : Memory :=
  match n with
  | 0 => []
  | k + 1 =>
    if g a = Config.unlistedByte a then Memory.bytesFrom g (a + 1) k else (a, g a) :: Memory.bytesFrom g (a + 1) k

/-- A memory that holds `g a` at every address of the address space, in canonical form. -/
def Memory.ofBytes (g : Nat → Byte) : Memory := Memory.bytesFrom g 0 65536

/-- The machine right after reset for any `BOOT_IMAGE` and any `MEM_INIT` (R40, decisions D15 and D16). -/
def State.resetWith (image : List Byte) (memInit : Nat → Byte) : State :=
  { State.reset with mem := Memory.ofBytes fun a => (image[a]?).getD (memInit a) }

end Sys2Proof.Machine
end

