-- ==== Sys2Proof/Machine/Ops.lean ====
section
/-! DEFINITION. The shared operations: memory (spec R60 to R66), registers and pairs (R20 to R28), the program counter (R27),
the stack (R166), fetching (R90, R75) and taking the one exception (R360 to R362). -/

namespace Sys2Proof.Machine

/-! ### Memory -/

/-- The byte at address `a` (R60: total). -/
def Memory.read (m : Memory) (a : Nat) : Byte :=
  match m with
  | [] => Config.unlistedByte a
  | c :: rest => if c.1 = a then c.2 else Memory.read rest a

/-- `m` without an entry for `a`. -/
def Memory.erase (m : Memory) (a : Nat) : Memory :=
  match m with
  | [] => []
  | c :: rest => if c.1 = a then Memory.erase rest a else c :: Memory.erase rest a

/-- `m` with the entry `(a, v)` put before the first greater address. -/
def Memory.insert (m : Memory) (a : Nat) (v : Byte) : Memory :=
  match m with
  | [] => [(a, v)]
  | c :: rest => if a < c.1 then (a, v) :: c :: rest else c :: Memory.insert rest a v

/-- `m` with the byte `v` at address `a`, and every other byte as it was (R60). -/
def Memory.write (m : Memory) (a : Nat) (v : Byte) : Memory :=
  if v = Config.unlistedByte a then Memory.erase m a else Memory.insert (Memory.erase m a) a v

/-- `MemRead(a, 1)` (R7, R60). -/
def State.readByte (s : State) (a : Word) : Byte := s.mem.read a.toNat

/-- `MemWrite(a, 1, v)` (R7, R60). -/
def State.writeByte (s : State) (a : Word) (v : Byte) : State := { s with mem := s.mem.write a.toNat v }

/-! ### Registers and pairs -/

/-- Read a register (R20, R93). -/
def State.reg (s : State) (r : Reg) : Byte :=
  match r with
  | .b => s.b
  | .c => s.c
  | .d => s.d
  | .e => s.e
  | .h => s.h
  | .l => s.l
  | .a => s.a

/-- Write a register (R20, R93). -/
def State.setReg (s : State) (r : Reg) (v : Byte) : State :=
  match r with
  | .b => { s with b := v }
  | .c => { s with c := v }
  | .d => { s with d := v }
  | .e => { s with e := v }
  | .h => { s with h := v }
  | .l => { s with l := v }
  | .a => { s with a := v }

/-- `BC = B ++ C` (R22). -/
def State.bc (s : State) : Word := word16 s.b s.c

/-- `DE = D ++ E` (R22). -/
def State.de (s : State) : Word := word16 s.d s.e

/-- `HL = H ++ L` (R22). -/
def State.hl (s : State) : Word := word16 s.h s.l

/-- `AF = A ++ F` (R23). -/
def State.af (s : State) : Word := word16 s.a s.f

/-- `BC <- v` (R22). -/
def State.setBC (s : State) (v : Word) : State := { s with b := hiByte v, c := loByte v }

/-- `DE <- v` (R22). -/
def State.setDE (s : State) (v : Word) : State := { s with d := hiByte v, e := loByte v }

/-- `HL <- v` (R22). -/
def State.setHL (s : State) (v : Word) : State := { s with h := hiByte v, l := loByte v }

/-- `AF <- v`: bits 3 to 0 of the flag byte are discarded (R23, R25). -/
def State.setAF (s : State) (v : Word) : State := { s with a := hiByte v, f := loByte v &&& 0xF0#8 }

/-- `rr[p]` (R94). -/
def State.pair (s : State) (p : Pair) : Word :=
  match p with
  | .bc => s.bc
  | .de => s.de
  | .hl => s.hl
  | .sp => s.sp

/-- `rr[p] <- v` (R94). -/
def State.setPair (s : State) (p : Pair) (v : Word) : State :=
  match p with
  | .bc => s.setBC v
  | .de => s.setDE v
  | .hl => s.setHL v
  | .sp => { s with sp := v }

/-- `rr2[p]` (R94). -/
def State.stackPair (s : State) (p : StackPair) : Word :=
  match p with
  | .bc => s.bc
  | .de => s.de
  | .hl => s.hl
  | .af => s.af

/-- `rr2[p] <- v` (R94, R164). -/
def State.setStackPair (s : State) (p : StackPair) (v : Word) : State :=
  match p with
  | .bc => s.setBC v
  | .de => s.setDE v
  | .hl => s.setHL v
  | .af => s.setAF v

/-! ### Program counter -/

/-- `PC <- next` (R90): past an instruction of `len` bytes, modulo 65536. -/
def State.advance (s : State) (len : Nat) : State := { s with pc := s.pc + BitVec.ofNat 16 len }

/-- `PC <- target`. -/
def State.jump (s : State) (target : Word) : State := { s with pc := target }

/-! ### Stack (R166) -/

/-- `Push16(v)`: high byte at `SP-1`, low byte at `SP-2`, then `SP <- SP - 2`. -/
def State.push16 (s : State) (v : Word) : State :=
  let s1 := s.writeByte (s.sp - 1) (hiByte v)
  let s2 := s1.writeByte (s.sp - 2) (loByte v)
  { s2 with sp := s.sp - 2 }

/-- The value that `Pop16()` returns: low byte at `SP`, high byte at `SP+1`. -/
def State.stackTop (s : State) : Word := word16 (s.readByte (s.sp + 1)) (s.readByte s.sp)

/-- The effect of `Pop16()` on `SP`. -/
def State.dropTop (s : State) : State := { s with sp := s.sp + 2 }

/-! ### Fetch (R90, R75) -/

/-- The instruction at `PC`. Reads have no side effects (R62), so reading the two bytes after the opcode of a shorter
instruction changes nothing, and `decodeOp` does not look at them. DEDUCED (log 8). -/
def fetch (s : State) : Instr :=
  decodeOp (s.readByte s.pc) (s.readByte (s.pc + 1)) (s.readByte (s.pc + 2))

/-- Store bytes at `a`, `a+1`, ... -/
def State.placeBytes (s : State) (a : Word) (bytes : List Byte) : State :=
  match bytes with
  | [] => s
  | v :: rest => (s.writeByte a v).placeBytes (a + 1) rest

/-! ### The exception (R360 to R363) -/

/-- `raise UnhandledOpcode(table, op, pc0)`: the run status records the table, the byte and the address of the instruction;
nothing else changes, `PC` included (R361, R362). There is no return from it (R363). The run is over: `step` answers
`Fault.runEnded` from here on (log 4). -/
def raiseUnhandled (table : OpcodeTable) (op : Byte) (s : State) : Result :=
  .next { s with status := .faulted table op s.pc }

end Sys2Proof.Machine
end

