-- ==== Sys2Proof/Machine/Operands.lean ====
section
/-! DEFINITION. The operand forms: `r8` (spec R93), the high page (R92, R131 to R134), displacements (R92) and conditions
(R95, R241). -/

namespace Sys2Proof.Machine

/-- Read `r8[i]`: a register, or the byte at `HL` (R93). -/
def State.operand (s : State) (o : Operand8) : Byte :=
  match o with
  | .reg r => s.reg r
  | .atHL => s.readByte s.hl

/-- Write `r8[i]`: a register, or the byte at `HL` (R93). -/
def State.setOperand (s : State) (o : Operand8) (v : Byte) : State :=
  match o with
  | .reg r => s.setReg r v
  | .atHL => s.writeByte s.hl v

/-- `IO_BASE + zext_16(v)` (R92). -/
def highPage (v : Byte) : Word := Config.ioBase + v.setWidth 16

/-- `sext_16(v)` (R7). -/
def sext16 (v : Byte) : Word := v.signExtend 16

/-- `zext_16(v)` (R7). -/
def zext16 (v : Byte) : Word := v.setWidth 16

/-- `fZ = F[7]` (R24). -/
def State.fZ (s : State) : Bool := s.f.getLsbD 7

/-- `fN = F[6]` (R24). -/
def State.fN (s : State) : Bool := s.f.getLsbD 6

/-- `fH = F[5]` (R24). -/
def State.fH (s : State) : Bool := s.f.getLsbD 5

/-- `fC = F[4]` (R24). -/
def State.fC (s : State) : Bool := s.f.getLsbD 4

/-- `cond(cc)` (R241). -/
def State.cond (s : State) (cc : Cond) : Bool :=
  match cc with
  | .nz => !s.fZ
  | .z => s.fZ
  | .nc => !s.fC
  | .c => s.fC

end Sys2Proof.Machine
end

