-- ==== Sys2Proof/Machine/Flags.lean ====
section
/-! DEFINITION. Results and flags of the arithmetic, logic, rotate and bit instructions (spec `42_alu_8bit.md`,
`43_alu_16bit.md`, `45_rotate_shift_bit.md`). Carries and borrows are compared on natural numbers, as the rules write them
(R8). A function that answers a pair answers (result, new `F`). -/

namespace Sys2Proof.Machine

/-- `F = fZ*0x80 + fN*0x40 + fH*0x20 + fC*0x10` (R24); the low nibble is zero (R25, log 10). -/
def packFlags (z n h c : Bool) : Byte :=
  BitVec.ofNat 8 (z.toNat * 0x80 + n.toNat * 0x40 + h.toNat * 0x20 + c.toNat * 0x10)

/-- Write all four flags (R24). -/
def State.setFlags (s : State) (z n h c : Bool) : State := { s with f := packFlags z n h c }

/-- `v[3:0]`. -/
def lowNibble (v : Byte) : Nat := v.toNat % 16

/-- `A + v + c`, with `c = 0` for `ADD` (R181, R182). -/
def addFlags (acc v : Byte) (carry : Bool) : Byte × Byte :=
  let sum := acc.toNat + v.toNat + carry.toNat
  let res := BitVec.ofNat 8 sum
  (res, packFlags (res == 0#8) false (lowNibble acc + lowNibble v + carry.toNat > 0xF) (sum > 0xFF))

/-- `A - v - c`, with `c = 0` for `SUB` and `CP` (R183, R184, R188). -/
def subFlags (acc v : Byte) (carry : Bool) : Byte × Byte :=
  let res := acc - v - BitVec.ofNat 8 carry.toNat
  (res, packFlags (res == 0#8) true (lowNibble acc < lowNibble v + carry.toNat) (acc.toNat < v.toNat + carry.toNat))

/-- `AND`: fH is set (R185). -/
def andFlags (acc v : Byte) : Byte × Byte := (acc &&& v, packFlags (acc &&& v == 0#8) false true false)

/-- `XOR` (R186). -/
def xorFlags (acc v : Byte) : Byte × Byte := (acc ^^^ v, packFlags (acc ^^^ v == 0#8) false false false)

/-- `OR` (R187). -/
def orFlags (acc v : Byte) : Byte × Byte := (acc ||| v, packFlags (acc ||| v == 0#8) false false false)

/-- New `A` and `F` of a two-operand operation (R181 to R188); `CP` keeps `A`. -/
def aluFlags (op : AluOp) (acc v : Byte) (carry : Bool) : Byte × Byte :=
  match op with
  | .add => addFlags acc v false
  | .adc => addFlags acc v carry
  | .sub => subFlags acc v false
  | .sbc => subFlags acc v carry
  | .and => andFlags acc v
  | .xor => xorFlags acc v
  | .or => orFlags acc v
  | .cp => (acc, (subFlags acc v false).2)

/-- Increment: fC keeps its value `carry` (R189, R191). -/
def incFlags (old : Byte) (carry : Bool) : Byte × Byte :=
  (old + 1, packFlags (old + 1 == 0#8) false (lowNibble old == 0xF) carry)

/-- Decrement: fC keeps its value `carry` (R190, R192). -/
def decFlags (old : Byte) (carry : Bool) : Byte × Byte :=
  (old - 1, packFlags (old - 1 == 0#8) true (lowNibble old == 0) carry)

/-- `DAA` (R193); both tests use `A` from before the instruction. -/
def daaFlags (acc : Byte) (n h c : Bool) : Byte × Byte :=
  let low := h || (!n && decide (lowNibble acc > 9))
  let high := c || (!n && decide (acc.toNat > 0x99))
  let adj : Byte := (if low then 0x06#8 else 0#8) ||| (if high then 0x60#8 else 0#8)
  let res := if n then acc - adj else acc + adj
  (res, packFlags (res == 0#8) n false high)

/-- `HL + v` with carries out of bits 11 and 15; fZ keeps its value `z` (R220). -/
def addWordFlags (x v : Word) (z : Bool) : Word × Byte :=
  (x + v, packFlags z false (x.toNat % 0x1000 + v.toNat % 0x1000 > 0xFFF) (x.toNat + v.toNat > 0xFFFF))

/-- `SP + sext_16(e8)` with the carries out of bits 3 and 7 of the unsigned low-byte addition (R165, R223). -/
def spPlusFlags (sp : Word) (e8 : Byte) : Word × Byte :=
  (sp + sext16 e8,
    packFlags false false (sp.toNat % 16 + lowNibble e8 > 0xF) (sp.toNat % 256 + e8.toNat > 0xFF))

/-- Result and carry out of a rotate or shift, the old carry being `carry` (R265 to R272). -/
def rotate (op : RotOp) (v : Byte) (carry : Bool) : Byte × Bool :=
  let bit0 : Bool → Byte := fun c => BitVec.ofNat 8 c.toNat
  let bit7 : Bool → Byte := fun c => BitVec.ofNat 8 (c.toNat * 0x80)
  match op with
  | .rlc => ((v <<< 1) ||| bit0 (v.getLsbD 7), v.getLsbD 7)
  | .rrc => ((v >>> 1) ||| bit7 (v.getLsbD 0), v.getLsbD 0)
  | .rl => ((v <<< 1) ||| bit0 carry, v.getLsbD 7)
  | .rr => ((v >>> 1) ||| bit7 carry, v.getLsbD 0)
  | .sla => (v <<< 1, v.getLsbD 7)
  | .sra => ((v >>> 1) ||| (v &&& 0x80#8), v.getLsbD 0)
  | .swap => ((v <<< 4) ||| (v >>> 4), false)
  | .srl => (v >>> 1, v.getLsbD 0)

/-- New operand and `F` of an extended-table rotate or shift (R265 to R272). -/
def rotFlags (op : RotOp) (v : Byte) (carry : Bool) : Byte × Byte :=
  let (res, out) := rotate op v carry
  (res, packFlags (res == 0#8) false false out)

/-- New `A` and `F` of an accumulator rotate: fZ is always 0 (R260 to R263). -/
def rotAccFlags (op : RotOp) (v : Byte) (carry : Bool) : Byte × Byte :=
  let (res, out) := rotate op v carry
  (res, packFlags false false false out)

/-- `1 << b` for a bit number (R274, R275). -/
def bitMask (b : Fin 8) : Byte := BitVec.twoPow 8 b.val

/-- `BIT b`: fC keeps its value `carry` (R273). -/
def bitFlags (b : Fin 8) (v : Byte) (carry : Bool) : Byte := packFlags (!v.getLsbD b.val) false true carry

end Sys2Proof.Machine
end

