-- ==== Sys2Proof/Machine/Alu16.lean ====
section
/-! DEFINITION. 16-bit arithmetic (spec `43_alu_16bit.md`, R220 to R223). -/

namespace Sys2Proof.Machine

/-- `HL <- HL + rr[p]`, fZ unchanged (R220). -/
def addHLStep (p : Pair) (s : State) : Result :=
  let r := addWordFlags s.hl (s.pair p) s.fZ
  .next (State.setHL { s.advance 1 with f := r.2 } r.1)

/-- `rr[p] <- rr[p] + 1`, no flag (R221). -/
def incPairStep (p : Pair) (s : State) : Result := .next ((s.advance 1).setPair p (s.pair p + 1))

/-- `rr[p] <- rr[p] - 1`, no flag (R222). -/
def decPairStep (p : Pair) (s : State) : Result := .next ((s.advance 1).setPair p (s.pair p - 1))

/-- `INC BC` (R221). -/
def exec_inc_bc (s : State) : Result := incPairStep .bc s

/-- `ADD HL,BC` (R220). -/
def exec_add_hl_bc (s : State) : Result := addHLStep .bc s

/-- `DEC BC` (R222). -/
def exec_dec_bc (s : State) : Result := decPairStep .bc s

/-- `INC DE` (R221). -/
def exec_inc_de (s : State) : Result := incPairStep .de s

/-- `ADD HL,DE` (R220). -/
def exec_add_hl_de (s : State) : Result := addHLStep .de s

/-- `DEC DE` (R222). -/
def exec_dec_de (s : State) : Result := decPairStep .de s

/-- `INC HL` (R221). -/
def exec_inc_hl (s : State) : Result := incPairStep .hl s

/-- `ADD HL,HL` (R220). -/
def exec_add_hl_hl (s : State) : Result := addHLStep .hl s

/-- `DEC HL` (R222). -/
def exec_dec_hl (s : State) : Result := decPairStep .hl s

/-- `INC SP` (R221). -/
def exec_inc_sp (s : State) : Result := incPairStep .sp s

/-- `ADD HL,SP` (R220). -/
def exec_add_hl_sp (s : State) : Result := addHLStep .sp s

/-- `DEC SP` (R222). -/
def exec_dec_sp (s : State) : Result := decPairStep .sp s

/-- `ADD SP,e8` (R223). -/
def exec_add_sp_e8 (e8 : Byte) (s : State) : Result :=
  let r := spPlusFlags s.sp e8
  .next { s.advance 2 with sp := r.1, f := r.2 }

end Sys2Proof.Machine
end

