-- ==== Sys2Proof/Machine/Alu8.lean ====
section
/-! DEFINITION. 8-bit arithmetic and logic (spec `42_alu_8bit.md`, R180 to R196). -/

namespace Sys2Proof.Machine

/-- A two-operand operation on `A` and `v` (R180 to R188). -/
def aluStep (op : AluOp) (v : Byte) (len : Nat) (s : State) : Result :=
  let r := aluFlags op s.a v s.fC
  .next { s.advance len with a := r.1, f := r.2 }

/-- `INC` of a register or of the byte at `HL` (R189, R191). -/
def incStep (o : Operand8) (s : State) : Result :=
  let r := incFlags (s.operand o) s.fC
  .next (State.setOperand { s.advance 1 with f := r.2 } o r.1)

/-- `DEC` of a register or of the byte at `HL` (R190, R192). -/
def decStep (o : Operand8) (s : State) : Result :=
  let r := decFlags (s.operand o) s.fC
  .next (State.setOperand { s.advance 1 with f := r.2 } o r.1)

/-- `INC B` (R189). -/
def exec_inc_b (s : State) : Result := incStep (.reg .b) s

/-- `DEC B` (R190). -/
def exec_dec_b (s : State) : Result := decStep (.reg .b) s

/-- `INC C` (R189). -/
def exec_inc_c (s : State) : Result := incStep (.reg .c) s

/-- `DEC C` (R190). -/
def exec_dec_c (s : State) : Result := decStep (.reg .c) s

/-- `INC D` (R189). -/
def exec_inc_d (s : State) : Result := incStep (.reg .d) s

/-- `DEC D` (R190). -/
def exec_dec_d (s : State) : Result := decStep (.reg .d) s

/-- `INC E` (R189). -/
def exec_inc_e (s : State) : Result := incStep (.reg .e) s

/-- `DEC E` (R190). -/
def exec_dec_e (s : State) : Result := decStep (.reg .e) s

/-- `INC H` (R189). -/
def exec_inc_h (s : State) : Result := incStep (.reg .h) s

/-- `DEC H` (R190). -/
def exec_dec_h (s : State) : Result := decStep (.reg .h) s

/-- `DAA` (R193). -/
def exec_daa (s : State) : Result :=
  let r := daaFlags s.a s.fN s.fH s.fC
  .next { s.advance 1 with a := r.1, f := r.2 }

/-- `INC L` (R189). -/
def exec_inc_l (s : State) : Result := incStep (.reg .l) s

/-- `DEC L` (R190). -/
def exec_dec_l (s : State) : Result := decStep (.reg .l) s

/-- `CPL` (R194). -/
def exec_cpl (s : State) : Result :=
  .next (State.setFlags { s.advance 1 with a := s.a ^^^ 0xFF#8 } s.fZ true true s.fC)

/-- `INC (HL)` (R191). -/
def exec_inc_atHL (s : State) : Result := incStep .atHL s

/-- `DEC (HL)` (R192). -/
def exec_dec_atHL (s : State) : Result := decStep .atHL s

/-- `SCF` (R195). -/
def exec_scf (s : State) : Result := .next ((s.advance 1).setFlags s.fZ false false true)

/-- `INC A` (R189). -/
def exec_inc_a (s : State) : Result := incStep (.reg .a) s

/-- `DEC A` (R190). -/
def exec_dec_a (s : State) : Result := decStep (.reg .a) s

/-- `CCF` (R196). -/
def exec_ccf (s : State) : Result := .next ((s.advance 1).setFlags s.fZ false false (!s.fC))

/-- `ADD A,B` (R181). -/
def exec_add_a_b (s : State) : Result := aluStep .add s.b 1 s

/-- `ADD A,C` (R181). -/
def exec_add_a_c (s : State) : Result := aluStep .add s.c 1 s

/-- `ADD A,D` (R181). -/
def exec_add_a_d (s : State) : Result := aluStep .add s.d 1 s

/-- `ADD A,E` (R181). -/
def exec_add_a_e (s : State) : Result := aluStep .add s.e 1 s

/-- `ADD A,H` (R181). -/
def exec_add_a_h (s : State) : Result := aluStep .add s.h 1 s

/-- `ADD A,L` (R181). -/
def exec_add_a_l (s : State) : Result := aluStep .add s.l 1 s

/-- `ADD A,(HL)` (R181). -/
def exec_add_a_atHL (s : State) : Result := aluStep .add (s.readByte s.hl) 1 s

/-- `ADD A,A` (R181). -/
def exec_add_a_a (s : State) : Result := aluStep .add s.a 1 s

/-- `ADC A,B` (R182). -/
def exec_adc_a_b (s : State) : Result := aluStep .adc s.b 1 s

/-- `ADC A,C` (R182). -/
def exec_adc_a_c (s : State) : Result := aluStep .adc s.c 1 s

/-- `ADC A,D` (R182). -/
def exec_adc_a_d (s : State) : Result := aluStep .adc s.d 1 s

/-- `ADC A,E` (R182). -/
def exec_adc_a_e (s : State) : Result := aluStep .adc s.e 1 s

/-- `ADC A,H` (R182). -/
def exec_adc_a_h (s : State) : Result := aluStep .adc s.h 1 s

/-- `ADC A,L` (R182). -/
def exec_adc_a_l (s : State) : Result := aluStep .adc s.l 1 s

/-- `ADC A,(HL)` (R182). -/
def exec_adc_a_atHL (s : State) : Result := aluStep .adc (s.readByte s.hl) 1 s

/-- `ADC A,A` (R182). -/
def exec_adc_a_a (s : State) : Result := aluStep .adc s.a 1 s

/-- `SUB B` (R183). -/
def exec_sub_b (s : State) : Result := aluStep .sub s.b 1 s

/-- `SUB C` (R183). -/
def exec_sub_c (s : State) : Result := aluStep .sub s.c 1 s

/-- `SUB D` (R183). -/
def exec_sub_d (s : State) : Result := aluStep .sub s.d 1 s

/-- `SUB E` (R183). -/
def exec_sub_e (s : State) : Result := aluStep .sub s.e 1 s

/-- `SUB H` (R183). -/
def exec_sub_h (s : State) : Result := aluStep .sub s.h 1 s

/-- `SUB L` (R183). -/
def exec_sub_l (s : State) : Result := aluStep .sub s.l 1 s

/-- `SUB (HL)` (R183). -/
def exec_sub_atHL (s : State) : Result := aluStep .sub (s.readByte s.hl) 1 s

/-- `SUB A` (R183). -/
def exec_sub_a (s : State) : Result := aluStep .sub s.a 1 s

/-- `SBC A,B` (R184). -/
def exec_sbc_a_b (s : State) : Result := aluStep .sbc s.b 1 s

/-- `SBC A,C` (R184). -/
def exec_sbc_a_c (s : State) : Result := aluStep .sbc s.c 1 s

/-- `SBC A,D` (R184). -/
def exec_sbc_a_d (s : State) : Result := aluStep .sbc s.d 1 s

/-- `SBC A,E` (R184). -/
def exec_sbc_a_e (s : State) : Result := aluStep .sbc s.e 1 s

/-- `SBC A,H` (R184). -/
def exec_sbc_a_h (s : State) : Result := aluStep .sbc s.h 1 s

/-- `SBC A,L` (R184). -/
def exec_sbc_a_l (s : State) : Result := aluStep .sbc s.l 1 s

/-- `SBC A,(HL)` (R184). -/
def exec_sbc_a_atHL (s : State) : Result := aluStep .sbc (s.readByte s.hl) 1 s

/-- `SBC A,A` (R184). -/
def exec_sbc_a_a (s : State) : Result := aluStep .sbc s.a 1 s

/-- `AND B` (R185). -/
def exec_and_b (s : State) : Result := aluStep .and s.b 1 s

/-- `AND C` (R185). -/
def exec_and_c (s : State) : Result := aluStep .and s.c 1 s

/-- `AND D` (R185). -/
def exec_and_d (s : State) : Result := aluStep .and s.d 1 s

/-- `AND E` (R185). -/
def exec_and_e (s : State) : Result := aluStep .and s.e 1 s

/-- `AND H` (R185). -/
def exec_and_h (s : State) : Result := aluStep .and s.h 1 s

/-- `AND L` (R185). -/
def exec_and_l (s : State) : Result := aluStep .and s.l 1 s

/-- `AND (HL)` (R185). -/
def exec_and_atHL (s : State) : Result := aluStep .and (s.readByte s.hl) 1 s

/-- `AND A` (R185). -/
def exec_and_a (s : State) : Result := aluStep .and s.a 1 s

/-- `XOR B` (R186). -/
def exec_xor_b (s : State) : Result := aluStep .xor s.b 1 s

/-- `XOR C` (R186). -/
def exec_xor_c (s : State) : Result := aluStep .xor s.c 1 s

/-- `XOR D` (R186). -/
def exec_xor_d (s : State) : Result := aluStep .xor s.d 1 s

/-- `XOR E` (R186). -/
def exec_xor_e (s : State) : Result := aluStep .xor s.e 1 s

/-- `XOR H` (R186). -/
def exec_xor_h (s : State) : Result := aluStep .xor s.h 1 s

/-- `XOR L` (R186). -/
def exec_xor_l (s : State) : Result := aluStep .xor s.l 1 s

/-- `XOR (HL)` (R186). -/
def exec_xor_atHL (s : State) : Result := aluStep .xor (s.readByte s.hl) 1 s

/-- `XOR A` (R186). -/
def exec_xor_a (s : State) : Result := aluStep .xor s.a 1 s

/-- `OR B` (R187). -/
def exec_or_b (s : State) : Result := aluStep .or s.b 1 s

/-- `OR C` (R187). -/
def exec_or_c (s : State) : Result := aluStep .or s.c 1 s

/-- `OR D` (R187). -/
def exec_or_d (s : State) : Result := aluStep .or s.d 1 s

/-- `OR E` (R187). -/
def exec_or_e (s : State) : Result := aluStep .or s.e 1 s

/-- `OR H` (R187). -/
def exec_or_h (s : State) : Result := aluStep .or s.h 1 s

/-- `OR L` (R187). -/
def exec_or_l (s : State) : Result := aluStep .or s.l 1 s

/-- `OR (HL)` (R187). -/
def exec_or_atHL (s : State) : Result := aluStep .or (s.readByte s.hl) 1 s

/-- `OR A` (R187). -/
def exec_or_a (s : State) : Result := aluStep .or s.a 1 s

/-- `CP B` (R188). -/
def exec_cp_b (s : State) : Result := aluStep .cp s.b 1 s

/-- `CP C` (R188). -/
def exec_cp_c (s : State) : Result := aluStep .cp s.c 1 s

/-- `CP D` (R188). -/
def exec_cp_d (s : State) : Result := aluStep .cp s.d 1 s

/-- `CP E` (R188). -/
def exec_cp_e (s : State) : Result := aluStep .cp s.e 1 s

/-- `CP H` (R188). -/
def exec_cp_h (s : State) : Result := aluStep .cp s.h 1 s

/-- `CP L` (R188). -/
def exec_cp_l (s : State) : Result := aluStep .cp s.l 1 s

/-- `CP (HL)` (R188). -/
def exec_cp_atHL (s : State) : Result := aluStep .cp (s.readByte s.hl) 1 s

/-- `CP A` (R188). -/
def exec_cp_a (s : State) : Result := aluStep .cp s.a 1 s

/-- `ADD A,d8` (R181). -/
def exec_add_a_d8 (d8 : Byte) (s : State) : Result := aluStep .add d8 2 s

/-- `ADC A,d8` (R182). -/
def exec_adc_a_d8 (d8 : Byte) (s : State) : Result := aluStep .adc d8 2 s

/-- `SUB d8` (R183). -/
def exec_sub_d8 (d8 : Byte) (s : State) : Result := aluStep .sub d8 2 s

/-- `SBC A,d8` (R184). -/
def exec_sbc_a_d8 (d8 : Byte) (s : State) : Result := aluStep .sbc d8 2 s

/-- `AND d8` (R185). -/
def exec_and_d8 (d8 : Byte) (s : State) : Result := aluStep .and d8 2 s

/-- `XOR d8` (R186). -/
def exec_xor_d8 (d8 : Byte) (s : State) : Result := aluStep .xor d8 2 s

/-- `OR d8` (R187). -/
def exec_or_d8 (d8 : Byte) (s : State) : Result := aluStep .or d8 2 s

/-- `CP d8` (R188). -/
def exec_cp_d8 (d8 : Byte) (s : State) : Result := aluStep .cp d8 2 s

end Sys2Proof.Machine
end

