-- ==== Sys2Proof/Machine/Control.lean ====
section
/-! DEFINITION. Control transfer (spec `44_control_transfer.md`, R230 to R242). `PC` is `next` before the effect (R90), so a
transfer that is not taken needs no action. No instruction here changes a flag. -/

namespace Sys2Proof.Machine

/-- `if taken: PC <- target` after an instruction of `len` bytes (R231 to R235). -/
def jumpIf (taken : Bool) (target : Word) (len : Nat) (s : State) : Result :=
  .next (if taken then (s.advance len).jump target else s.advance len)

/-- The target of a relative jump: `next + sext_16(e8)` with `next = pc0 + 2` (R234, R235). -/
def relativeTarget (e8 : Byte) (s : State) : Word := (s.advance 2).pc + sext16 e8

/-- `if taken: Push16(next); PC <- target` (R236, R237, R240). -/
def callIf (taken : Bool) (target : Word) (len : Nat) (s : State) : Result :=
  let t := s.advance len
  .next (if taken then (t.push16 t.pc).jump target else t)

/-- `if taken: PC <- Pop16()` (R238, R239). -/
def returnIf (taken : Bool) (s : State) : Result :=
  let t := s.advance 1
  .next (if taken then t.dropTop.jump t.stackTop else t)

/-- `NOP` (R230). -/
def exec_nop (s : State) : Result := .next (s.advance 1)

/-- `JR e8` (R234). -/
def exec_jr_e8 (e8 : Byte) (s : State) : Result := jumpIf true (relativeTarget e8 s) 2 s

/-- `JR NZ,e8` (R235). -/
def exec_jr_nz_e8 (e8 : Byte) (s : State) : Result := jumpIf (s.cond .nz) (relativeTarget e8 s) 2 s

/-- `JR Z,e8` (R235). -/
def exec_jr_z_e8 (e8 : Byte) (s : State) : Result := jumpIf (s.cond .z) (relativeTarget e8 s) 2 s

/-- `JR NC,e8` (R235). -/
def exec_jr_nc_e8 (e8 : Byte) (s : State) : Result := jumpIf (s.cond .nc) (relativeTarget e8 s) 2 s

/-- `JR C,e8` (R235). -/
def exec_jr_c_e8 (e8 : Byte) (s : State) : Result := jumpIf (s.cond .c) (relativeTarget e8 s) 2 s

/-- `RET NZ` (R239). -/
def exec_ret_nz (s : State) : Result := returnIf (s.cond .nz) s

/-- `JP NZ,a16` (R232). -/
def exec_jp_nz_a16 (a16 : Word) (s : State) : Result := jumpIf (s.cond .nz) a16 3 s

/-- `JP a16` (R231). -/
def exec_jp_a16 (a16 : Word) (s : State) : Result := jumpIf true a16 3 s

/-- `CALL NZ,a16` (R237). -/
def exec_call_nz_a16 (a16 : Word) (s : State) : Result := callIf (s.cond .nz) a16 3 s

/-- `RST 0x00` (R240). -/
def exec_rst_00 (s : State) : Result := callIf true 0x0000#16 1 s

/-- `RET Z` (R239). -/
def exec_ret_z (s : State) : Result := returnIf (s.cond .z) s

/-- `RET` (R238). -/
def exec_ret (s : State) : Result := returnIf true s

/-- `JP Z,a16` (R232). -/
def exec_jp_z_a16 (a16 : Word) (s : State) : Result := jumpIf (s.cond .z) a16 3 s

/-- `CALL Z,a16` (R237). -/
def exec_call_z_a16 (a16 : Word) (s : State) : Result := callIf (s.cond .z) a16 3 s

/-- `CALL a16` (R236). -/
def exec_call_a16 (a16 : Word) (s : State) : Result := callIf true a16 3 s

/-- `RST 0x08` (R240). -/
def exec_rst_08 (s : State) : Result := callIf true 0x0008#16 1 s

/-- `RET NC` (R239). -/
def exec_ret_nc (s : State) : Result := returnIf (s.cond .nc) s

/-- `JP NC,a16` (R232). -/
def exec_jp_nc_a16 (a16 : Word) (s : State) : Result := jumpIf (s.cond .nc) a16 3 s

/-- `CALL NC,a16` (R237). -/
def exec_call_nc_a16 (a16 : Word) (s : State) : Result := callIf (s.cond .nc) a16 3 s

/-- `RST 0x10` (R240). -/
def exec_rst_10 (s : State) : Result := callIf true 0x0010#16 1 s

/-- `RET C` (R239). -/
def exec_ret_c (s : State) : Result := returnIf (s.cond .c) s

/-- `JP C,a16` (R232). -/
def exec_jp_c_a16 (a16 : Word) (s : State) : Result := jumpIf (s.cond .c) a16 3 s

/-- `CALL C,a16` (R237). -/
def exec_call_c_a16 (a16 : Word) (s : State) : Result := callIf (s.cond .c) a16 3 s

/-- `RST 0x18` (R240). -/
def exec_rst_18 (s : State) : Result := callIf true 0x0018#16 1 s

/-- `RST 0x20` (R240). -/
def exec_rst_20 (s : State) : Result := callIf true 0x0020#16 1 s

/-- `JP HL` (R233). -/
def exec_jp_hl (s : State) : Result := jumpIf true s.hl 1 s

/-- `RST 0x28` (R240). -/
def exec_rst_28 (s : State) : Result := callIf true 0x0028#16 1 s

/-- `RST 0x30` (R240). -/
def exec_rst_30 (s : State) : Result := callIf true 0x0030#16 1 s

/-- `RST 0x38` (R240). -/
def exec_rst_38 (s : State) : Result := callIf true 0x0038#16 1 s

end Sys2Proof.Machine
end

