-- ==== Sys2Proof/Machine/Loads16.lean ====
section
/-! DEFINITION. 16-bit loads and the stack (spec `41_loads_16bit_stack.md`, R160 to R166). -/

namespace Sys2Proof.Machine

/-- `rr[p] <- d16` (R160). -/
def loadPair (p : Pair) (v : Word) (s : State) : Result := .next ((s.advance 3).setPair p v)

/-- `Push16(rr2[p])` (R163, R166). -/
def pushPairStep (p : StackPair) (s : State) : Result := .next ((s.advance 1).push16 (s.stackPair p))

/-- `rr2[p] <- Pop16()` (R164, R166). -/
def popPairStep (p : StackPair) (s : State) : Result := .next ((s.advance 1).dropTop.setStackPair p s.stackTop)

/-- `LD BC,d16` (R160). -/
def exec_ld_bc_d16 (d16 : Word) (s : State) : Result := loadPair .bc d16 s

/-- `LD (a16),SP` (R162). -/
def exec_ld_at16_sp (a16 : Word) (s : State) : Result :=
  .next (((s.advance 3).writeByte a16 (loByte s.sp)).writeByte (a16 + 1) (hiByte s.sp))

/-- `LD DE,d16` (R160). -/
def exec_ld_de_d16 (d16 : Word) (s : State) : Result := loadPair .de d16 s

/-- `LD HL,d16` (R160). -/
def exec_ld_hl_d16 (d16 : Word) (s : State) : Result := loadPair .hl d16 s

/-- `LD SP,d16` (R160). -/
def exec_ld_sp_d16 (d16 : Word) (s : State) : Result := loadPair .sp d16 s

/-- `POP BC` (R164). -/
def exec_pop_bc (s : State) : Result := popPairStep .bc s

/-- `PUSH BC` (R163). -/
def exec_push_bc (s : State) : Result := pushPairStep .bc s

/-- `POP DE` (R164). -/
def exec_pop_de (s : State) : Result := popPairStep .de s

/-- `PUSH DE` (R163). -/
def exec_push_de (s : State) : Result := pushPairStep .de s

/-- `POP HL` (R164). -/
def exec_pop_hl (s : State) : Result := popPairStep .hl s

/-- `PUSH HL` (R163). -/
def exec_push_hl (s : State) : Result := pushPairStep .hl s

/-- `POP AF` (R164). -/
def exec_pop_af (s : State) : Result := popPairStep .af s

/-- `PUSH AF` (R163). -/
def exec_push_af (s : State) : Result := pushPairStep .af s

/-- `LD HL,SP+e8` (R165). -/
def exec_ld_hl_sp_e8 (e8 : Byte) (s : State) : Result :=
  let r := spPlusFlags s.sp e8
  .next (State.setHL { s.advance 2 with f := r.2 } r.1)

/-- `LD SP,HL` (R161). -/
def exec_ld_sp_hl (s : State) : Result := .next { s.advance 1 with sp := s.hl }

end Sys2Proof.Machine
end

