-- ==== Sys2Proof/Machine/Loads8.lean ====
section
/-! DEFINITION. 8-bit loads and stores (spec `40_loads_8bit.md`, R120 to R138). No instruction here changes a flag. -/

namespace Sys2Proof.Machine

/-- `PC <- next`, then `dst <- v` (R120 to R122, R125, R126, R129, R131, R133). -/
def loadReg (dst : Reg) (v : Byte) (len : Nat) (s : State) : Result := .next ((s.advance len).setReg dst v)

/-- `PC <- next`, then `MemWrite(addr, 1, v)` (R123, R124, R127, R128, R130, R132, R134). -/
def storeByte (addr : Word) (v : Byte) (len : Nat) (s : State) : Result := .next ((s.advance len).writeByte addr v)

/-- Store `A` at the old `HL`, then `HL <- HL + delta` (R135, R136, conflict C1). -/
def storeStepHL (delta : Word) (s : State) : Result :=
  .next (((s.advance 1).writeByte s.hl s.a).setHL (s.hl + delta))

/-- Load `A` from the old `HL`, then `HL <- HL + delta` (R137, R138). -/
def loadStepHL (delta : Word) (s : State) : Result :=
  .next (((s.advance 1).setReg .a (s.readByte s.hl)).setHL (s.hl + delta))

/-- `LD (BC),A` (R127). -/
def exec_ld_atBC_a (s : State) : Result := storeByte s.bc s.a 1 s

/-- `LD B,d8` (R121). -/
def exec_ld_b_d8 (d8 : Byte) (s : State) : Result := loadReg .b d8 2 s

/-- `LD A,(BC)` (R125). -/
def exec_ld_a_atBC (s : State) : Result := loadReg .a (s.readByte s.bc) 1 s

/-- `LD C,d8` (R121). -/
def exec_ld_c_d8 (d8 : Byte) (s : State) : Result := loadReg .c d8 2 s

/-- `LD (DE),A` (R128). -/
def exec_ld_atDE_a (s : State) : Result := storeByte s.de s.a 1 s

/-- `LD D,d8` (R121). -/
def exec_ld_d_d8 (d8 : Byte) (s : State) : Result := loadReg .d d8 2 s

/-- `LD A,(DE)` (R126). -/
def exec_ld_a_atDE (s : State) : Result := loadReg .a (s.readByte s.de) 1 s

/-- `LD E,d8` (R121). -/
def exec_ld_e_d8 (d8 : Byte) (s : State) : Result := loadReg .e d8 2 s

/-- `LD (HL+),A` (R135). -/
def exec_ld_atHLI_a (s : State) : Result := storeStepHL 1 s

/-- `LD H,d8` (R121). -/
def exec_ld_h_d8 (d8 : Byte) (s : State) : Result := loadReg .h d8 2 s

/-- `LD A,(HL+)` (R137). -/
def exec_ld_a_atHLI (s : State) : Result := loadStepHL 1 s

/-- `LD L,d8` (R121). -/
def exec_ld_l_d8 (d8 : Byte) (s : State) : Result := loadReg .l d8 2 s

/-- `LD (HL-),A` (R136). -/
def exec_ld_atHLD_a (s : State) : Result := storeStepHL (-1) s

/-- `LD (HL),d8` (R124). -/
def exec_ld_atHL_d8 (d8 : Byte) (s : State) : Result := storeByte s.hl d8 2 s

/-- `LD A,(HL-)` (R138). -/
def exec_ld_a_atHLD (s : State) : Result := loadStepHL (-1) s

/-- `LD A,d8` (R121). -/
def exec_ld_a_d8 (d8 : Byte) (s : State) : Result := loadReg .a d8 2 s

/-- `LD B,B` (R120). -/
def exec_ld_b_b (s : State) : Result := loadReg .b s.b 1 s

/-- `LD B,C` (R120). -/
def exec_ld_b_c (s : State) : Result := loadReg .b s.c 1 s

/-- `LD B,D` (R120). -/
def exec_ld_b_d (s : State) : Result := loadReg .b s.d 1 s

/-- `LD B,E` (R120). -/
def exec_ld_b_e (s : State) : Result := loadReg .b s.e 1 s

/-- `LD B,H` (R120). -/
def exec_ld_b_h (s : State) : Result := loadReg .b s.h 1 s

/-- `LD B,L` (R120). -/
def exec_ld_b_l (s : State) : Result := loadReg .b s.l 1 s

/-- `LD B,(HL)` (R122). -/
def exec_ld_b_atHL (s : State) : Result := loadReg .b (s.readByte s.hl) 1 s

/-- `LD B,A` (R120). -/
def exec_ld_b_a (s : State) : Result := loadReg .b s.a 1 s

/-- `LD C,B` (R120). -/
def exec_ld_c_b (s : State) : Result := loadReg .c s.b 1 s

/-- `LD C,C` (R120). -/
def exec_ld_c_c (s : State) : Result := loadReg .c s.c 1 s

/-- `LD C,D` (R120). -/
def exec_ld_c_d (s : State) : Result := loadReg .c s.d 1 s

/-- `LD C,E` (R120). -/
def exec_ld_c_e (s : State) : Result := loadReg .c s.e 1 s

/-- `LD C,H` (R120). -/
def exec_ld_c_h (s : State) : Result := loadReg .c s.h 1 s

/-- `LD C,L` (R120). -/
def exec_ld_c_l (s : State) : Result := loadReg .c s.l 1 s

/-- `LD C,(HL)` (R122). -/
def exec_ld_c_atHL (s : State) : Result := loadReg .c (s.readByte s.hl) 1 s

/-- `LD C,A` (R120). -/
def exec_ld_c_a (s : State) : Result := loadReg .c s.a 1 s

/-- `LD D,B` (R120). -/
def exec_ld_d_b (s : State) : Result := loadReg .d s.b 1 s

/-- `LD D,C` (R120). -/
def exec_ld_d_c (s : State) : Result := loadReg .d s.c 1 s

/-- `LD D,D` (R120). -/
def exec_ld_d_d (s : State) : Result := loadReg .d s.d 1 s

/-- `LD D,E` (R120). -/
def exec_ld_d_e (s : State) : Result := loadReg .d s.e 1 s

/-- `LD D,H` (R120). -/
def exec_ld_d_h (s : State) : Result := loadReg .d s.h 1 s

/-- `LD D,L` (R120). -/
def exec_ld_d_l (s : State) : Result := loadReg .d s.l 1 s

/-- `LD D,(HL)` (R122). -/
def exec_ld_d_atHL (s : State) : Result := loadReg .d (s.readByte s.hl) 1 s

/-- `LD D,A` (R120). -/
def exec_ld_d_a (s : State) : Result := loadReg .d s.a 1 s

/-- `LD E,B` (R120). -/
def exec_ld_e_b (s : State) : Result := loadReg .e s.b 1 s

/-- `LD E,C` (R120). -/
def exec_ld_e_c (s : State) : Result := loadReg .e s.c 1 s

/-- `LD E,D` (R120). -/
def exec_ld_e_d (s : State) : Result := loadReg .e s.d 1 s

/-- `LD E,E` (R120). -/
def exec_ld_e_e (s : State) : Result := loadReg .e s.e 1 s

/-- `LD E,H` (R120). -/
def exec_ld_e_h (s : State) : Result := loadReg .e s.h 1 s

/-- `LD E,L` (R120). -/
def exec_ld_e_l (s : State) : Result := loadReg .e s.l 1 s

/-- `LD E,(HL)` (R122). -/
def exec_ld_e_atHL (s : State) : Result := loadReg .e (s.readByte s.hl) 1 s

/-- `LD E,A` (R120). -/
def exec_ld_e_a (s : State) : Result := loadReg .e s.a 1 s

/-- `LD H,B` (R120). -/
def exec_ld_h_b (s : State) : Result := loadReg .h s.b 1 s

/-- `LD H,C` (R120). -/
def exec_ld_h_c (s : State) : Result := loadReg .h s.c 1 s

/-- `LD H,D` (R120). -/
def exec_ld_h_d (s : State) : Result := loadReg .h s.d 1 s

/-- `LD H,E` (R120). -/
def exec_ld_h_e (s : State) : Result := loadReg .h s.e 1 s

/-- `LD H,H` (R120). -/
def exec_ld_h_h (s : State) : Result := loadReg .h s.h 1 s

/-- `LD H,L` (R120). -/
def exec_ld_h_l (s : State) : Result := loadReg .h s.l 1 s

/-- `LD H,(HL)` (R122). -/
def exec_ld_h_atHL (s : State) : Result := loadReg .h (s.readByte s.hl) 1 s

/-- `LD H,A` (R120). -/
def exec_ld_h_a (s : State) : Result := loadReg .h s.a 1 s

/-- `LD L,B` (R120). -/
def exec_ld_l_b (s : State) : Result := loadReg .l s.b 1 s

/-- `LD L,C` (R120). -/
def exec_ld_l_c (s : State) : Result := loadReg .l s.c 1 s

/-- `LD L,D` (R120). -/
def exec_ld_l_d (s : State) : Result := loadReg .l s.d 1 s

/-- `LD L,E` (R120). -/
def exec_ld_l_e (s : State) : Result := loadReg .l s.e 1 s

/-- `LD L,H` (R120). -/
def exec_ld_l_h (s : State) : Result := loadReg .l s.h 1 s

/-- `LD L,L` (R120). -/
def exec_ld_l_l (s : State) : Result := loadReg .l s.l 1 s

/-- `LD L,(HL)` (R122). -/
def exec_ld_l_atHL (s : State) : Result := loadReg .l (s.readByte s.hl) 1 s

/-- `LD L,A` (R120). -/
def exec_ld_l_a (s : State) : Result := loadReg .l s.a 1 s

/-- `LD (HL),B` (R123). -/
def exec_ld_atHL_b (s : State) : Result := storeByte s.hl s.b 1 s

/-- `LD (HL),C` (R123). -/
def exec_ld_atHL_c (s : State) : Result := storeByte s.hl s.c 1 s

/-- `LD (HL),D` (R123). -/
def exec_ld_atHL_d (s : State) : Result := storeByte s.hl s.d 1 s

/-- `LD (HL),E` (R123). -/
def exec_ld_atHL_e (s : State) : Result := storeByte s.hl s.e 1 s

/-- `LD (HL),H` (R123). -/
def exec_ld_atHL_h (s : State) : Result := storeByte s.hl s.h 1 s

/-- `LD (HL),L` (R123). -/
def exec_ld_atHL_l (s : State) : Result := storeByte s.hl s.l 1 s

/-- `LD (HL),A` (R123). -/
def exec_ld_atHL_a (s : State) : Result := storeByte s.hl s.a 1 s

/-- `LD A,B` (R120). -/
def exec_ld_a_b (s : State) : Result := loadReg .a s.b 1 s

/-- `LD A,C` (R120). -/
def exec_ld_a_c (s : State) : Result := loadReg .a s.c 1 s

/-- `LD A,D` (R120). -/
def exec_ld_a_d (s : State) : Result := loadReg .a s.d 1 s

/-- `LD A,E` (R120). -/
def exec_ld_a_e (s : State) : Result := loadReg .a s.e 1 s

/-- `LD A,H` (R120). -/
def exec_ld_a_h (s : State) : Result := loadReg .a s.h 1 s

/-- `LD A,L` (R120). -/
def exec_ld_a_l (s : State) : Result := loadReg .a s.l 1 s

/-- `LD A,(HL)` (R122). -/
def exec_ld_a_atHL (s : State) : Result := loadReg .a (s.readByte s.hl) 1 s

/-- `LD A,A` (R120). -/
def exec_ld_a_a (s : State) : Result := loadReg .a s.a 1 s

/-- `LDH (a8),A` (R132). -/
def exec_ldh_at8_a (a8 : Byte) (s : State) : Result := storeByte (highPage a8) s.a 2 s

/-- `LD (C),A` (R134). -/
def exec_ld_atC_a (s : State) : Result := storeByte (highPage s.c) s.a 1 s

/-- `LD (a16),A` (R130). -/
def exec_ld_at16_a (a16 : Word) (s : State) : Result := storeByte a16 s.a 3 s

/-- `LDH A,(a8)` (R131). -/
def exec_ldh_a_at8 (a8 : Byte) (s : State) : Result := loadReg .a (s.readByte (highPage a8)) 2 s

/-- `LD A,(C)` (R133). -/
def exec_ld_a_atC (s : State) : Result := loadReg .a (s.readByte (highPage s.c)) 1 s

/-- `LD A,(a16)` (R129). -/
def exec_ld_a_at16 (a16 : Word) (s : State) : Result := loadReg .a (s.readByte a16) 3 s

end Sys2Proof.Machine
end

