-- ==== Sys2Proof/Machine/RotateBit.lean ====
section
/-! DEFINITION. Rotates, shifts and bit operations (spec `45_rotate_shift_bit.md`, R260 to R275), and the prefix (R264). -/

namespace Sys2Proof.Machine

/-- An accumulator rotate: 1 byte, fZ cleared (R260 to R263). -/
def rotAccStep (op : RotOp) (s : State) : Result :=
  let r := rotAccFlags op s.a s.fC
  .next { s.advance 1 with a := r.1, f := r.2 }

/-- A rotate or shift of the extended table (R265 to R272). -/
def rotStep (op : RotOp) (o : Operand8) (s : State) : Result :=
  let r := rotFlags op (s.operand o) s.fC
  .next (State.setOperand { s.advance 2 with f := r.2 } o r.1)

/-- `BIT b,x` (R273): nothing is written back. -/
def bitStep (b : Fin 8) (o : Operand8) (s : State) : Result :=
  .next { s.advance 2 with f := bitFlags b (s.operand o) s.fC }

/-- `RES b,x` (R274). -/
def resStep (b : Fin 8) (o : Operand8) (s : State) : Result :=
  .next ((s.advance 2).setOperand o (s.operand o &&& (0xFF#8 ^^^ bitMask b)))

/-- `SET b,x` (R275). -/
def setStep (b : Fin 8) (o : Operand8) (s : State) : Result :=
  .next ((s.advance 2).setOperand o (s.operand o ||| bitMask b))

/-- Prefix dispatch (R264): the row `PREFIX` with its second byte, read by the fields `x = op2[7:6]`, `y = op2[5:3]`,
`z = op2[2:0]`. The decoder gives the extended instruction itself, so this meaning is the rule's own account of it (log 6). -/
def exec_prefixCB (op2 : Byte) (s : State) : Result :=
  let y := field op2 3 3
  let o := operandOfCode (field op2 0 3)
  match field op2 6 2 with
  | 0 => rotStep (rotOfCode y) o s
  | 1 => bitStep (fin8 y) o s
  | 2 => resStep (fin8 y) o s
  | _ => setStep (fin8 y) o s

/-- `RLCA` (R260). -/
def exec_rlca (s : State) : Result := rotAccStep .rlc s

/-- `RRCA` (R262). -/
def exec_rrca (s : State) : Result := rotAccStep .rrc s

/-- `RLA` (R261). -/
def exec_rla (s : State) : Result := rotAccStep .rl s

/-- `RRA` (R263). -/
def exec_rra (s : State) : Result := rotAccStep .rr s

/-- `RLC B` (R265). -/
def exec_rlc_b (s : State) : Result := rotStep .rlc (.reg .b) s

/-- `RLC C` (R265). -/
def exec_rlc_c (s : State) : Result := rotStep .rlc (.reg .c) s

/-- `RLC D` (R265). -/
def exec_rlc_d (s : State) : Result := rotStep .rlc (.reg .d) s

/-- `RLC E` (R265). -/
def exec_rlc_e (s : State) : Result := rotStep .rlc (.reg .e) s

/-- `RLC H` (R265). -/
def exec_rlc_h (s : State) : Result := rotStep .rlc (.reg .h) s

/-- `RLC L` (R265). -/
def exec_rlc_l (s : State) : Result := rotStep .rlc (.reg .l) s

/-- `RLC (HL)` (R265). -/
def exec_rlc_atHL (s : State) : Result := rotStep .rlc .atHL s

/-- `RLC A` (R265). -/
def exec_rlc_a (s : State) : Result := rotStep .rlc (.reg .a) s

/-- `RRC B` (R266). -/
def exec_rrc_b (s : State) : Result := rotStep .rrc (.reg .b) s

/-- `RRC C` (R266). -/
def exec_rrc_c (s : State) : Result := rotStep .rrc (.reg .c) s

/-- `RRC D` (R266). -/
def exec_rrc_d (s : State) : Result := rotStep .rrc (.reg .d) s

/-- `RRC E` (R266). -/
def exec_rrc_e (s : State) : Result := rotStep .rrc (.reg .e) s

/-- `RRC H` (R266). -/
def exec_rrc_h (s : State) : Result := rotStep .rrc (.reg .h) s

/-- `RRC L` (R266). -/
def exec_rrc_l (s : State) : Result := rotStep .rrc (.reg .l) s

/-- `RRC (HL)` (R266). -/
def exec_rrc_atHL (s : State) : Result := rotStep .rrc .atHL s

/-- `RRC A` (R266). -/
def exec_rrc_a (s : State) : Result := rotStep .rrc (.reg .a) s

/-- `RL B` (R267). -/
def exec_rl_b (s : State) : Result := rotStep .rl (.reg .b) s

/-- `RL C` (R267). -/
def exec_rl_c (s : State) : Result := rotStep .rl (.reg .c) s

/-- `RL D` (R267). -/
def exec_rl_d (s : State) : Result := rotStep .rl (.reg .d) s

/-- `RL E` (R267). -/
def exec_rl_e (s : State) : Result := rotStep .rl (.reg .e) s

/-- `RL H` (R267). -/
def exec_rl_h (s : State) : Result := rotStep .rl (.reg .h) s

/-- `RL L` (R267). -/
def exec_rl_l (s : State) : Result := rotStep .rl (.reg .l) s

/-- `RL (HL)` (R267). -/
def exec_rl_atHL (s : State) : Result := rotStep .rl .atHL s

/-- `RL A` (R267). -/
def exec_rl_a (s : State) : Result := rotStep .rl (.reg .a) s

/-- `RR B` (R268). -/
def exec_rr_b (s : State) : Result := rotStep .rr (.reg .b) s

/-- `RR C` (R268). -/
def exec_rr_c (s : State) : Result := rotStep .rr (.reg .c) s

/-- `RR D` (R268). -/
def exec_rr_d (s : State) : Result := rotStep .rr (.reg .d) s

/-- `RR E` (R268). -/
def exec_rr_e (s : State) : Result := rotStep .rr (.reg .e) s

/-- `RR H` (R268). -/
def exec_rr_h (s : State) : Result := rotStep .rr (.reg .h) s

/-- `RR L` (R268). -/
def exec_rr_l (s : State) : Result := rotStep .rr (.reg .l) s

/-- `RR (HL)` (R268). -/
def exec_rr_atHL (s : State) : Result := rotStep .rr .atHL s

/-- `RR A` (R268). -/
def exec_rr_a (s : State) : Result := rotStep .rr (.reg .a) s

/-- `SLA B` (R269). -/
def exec_sla_b (s : State) : Result := rotStep .sla (.reg .b) s

/-- `SLA C` (R269). -/
def exec_sla_c (s : State) : Result := rotStep .sla (.reg .c) s

/-- `SLA D` (R269). -/
def exec_sla_d (s : State) : Result := rotStep .sla (.reg .d) s

/-- `SLA E` (R269). -/
def exec_sla_e (s : State) : Result := rotStep .sla (.reg .e) s

/-- `SLA H` (R269). -/
def exec_sla_h (s : State) : Result := rotStep .sla (.reg .h) s

/-- `SLA L` (R269). -/
def exec_sla_l (s : State) : Result := rotStep .sla (.reg .l) s

/-- `SLA (HL)` (R269). -/
def exec_sla_atHL (s : State) : Result := rotStep .sla .atHL s

/-- `SLA A` (R269). -/
def exec_sla_a (s : State) : Result := rotStep .sla (.reg .a) s

/-- `SRA B` (R270). -/
def exec_sra_b (s : State) : Result := rotStep .sra (.reg .b) s

/-- `SRA C` (R270). -/
def exec_sra_c (s : State) : Result := rotStep .sra (.reg .c) s

/-- `SRA D` (R270). -/
def exec_sra_d (s : State) : Result := rotStep .sra (.reg .d) s

/-- `SRA E` (R270). -/
def exec_sra_e (s : State) : Result := rotStep .sra (.reg .e) s

/-- `SRA H` (R270). -/
def exec_sra_h (s : State) : Result := rotStep .sra (.reg .h) s

/-- `SRA L` (R270). -/
def exec_sra_l (s : State) : Result := rotStep .sra (.reg .l) s

/-- `SRA (HL)` (R270). -/
def exec_sra_atHL (s : State) : Result := rotStep .sra .atHL s

/-- `SRA A` (R270). -/
def exec_sra_a (s : State) : Result := rotStep .sra (.reg .a) s

/-- `SWAP B` (R271). -/
def exec_swap_b (s : State) : Result := rotStep .swap (.reg .b) s

/-- `SWAP C` (R271). -/
def exec_swap_c (s : State) : Result := rotStep .swap (.reg .c) s

/-- `SWAP D` (R271). -/
def exec_swap_d (s : State) : Result := rotStep .swap (.reg .d) s

/-- `SWAP E` (R271). -/
def exec_swap_e (s : State) : Result := rotStep .swap (.reg .e) s

/-- `SWAP H` (R271). -/
def exec_swap_h (s : State) : Result := rotStep .swap (.reg .h) s

/-- `SWAP L` (R271). -/
def exec_swap_l (s : State) : Result := rotStep .swap (.reg .l) s

/-- `SWAP (HL)` (R271). -/
def exec_swap_atHL (s : State) : Result := rotStep .swap .atHL s

/-- `SWAP A` (R271). -/
def exec_swap_a (s : State) : Result := rotStep .swap (.reg .a) s

/-- `SRL B` (R272). -/
def exec_srl_b (s : State) : Result := rotStep .srl (.reg .b) s

/-- `SRL C` (R272). -/
def exec_srl_c (s : State) : Result := rotStep .srl (.reg .c) s

/-- `SRL D` (R272). -/
def exec_srl_d (s : State) : Result := rotStep .srl (.reg .d) s

/-- `SRL E` (R272). -/
def exec_srl_e (s : State) : Result := rotStep .srl (.reg .e) s

/-- `SRL H` (R272). -/
def exec_srl_h (s : State) : Result := rotStep .srl (.reg .h) s

/-- `SRL L` (R272). -/
def exec_srl_l (s : State) : Result := rotStep .srl (.reg .l) s

/-- `SRL (HL)` (R272). -/
def exec_srl_atHL (s : State) : Result := rotStep .srl .atHL s

/-- `SRL A` (R272). -/
def exec_srl_a (s : State) : Result := rotStep .srl (.reg .a) s

/-- `BIT 0,B` (R273). -/
def exec_bit_0_b (s : State) : Result := bitStep 0 (.reg .b) s

/-- `BIT 0,C` (R273). -/
def exec_bit_0_c (s : State) : Result := bitStep 0 (.reg .c) s

/-- `BIT 0,D` (R273). -/
def exec_bit_0_d (s : State) : Result := bitStep 0 (.reg .d) s

/-- `BIT 0,E` (R273). -/
def exec_bit_0_e (s : State) : Result := bitStep 0 (.reg .e) s

/-- `BIT 0,H` (R273). -/
def exec_bit_0_h (s : State) : Result := bitStep 0 (.reg .h) s

/-- `BIT 0,L` (R273). -/
def exec_bit_0_l (s : State) : Result := bitStep 0 (.reg .l) s

/-- `BIT 0,(HL)` (R273). -/
def exec_bit_0_atHL (s : State) : Result := bitStep 0 .atHL s

/-- `BIT 0,A` (R273). -/
def exec_bit_0_a (s : State) : Result := bitStep 0 (.reg .a) s

/-- `BIT 1,B` (R273). -/
def exec_bit_1_b (s : State) : Result := bitStep 1 (.reg .b) s

/-- `BIT 1,C` (R273). -/
def exec_bit_1_c (s : State) : Result := bitStep 1 (.reg .c) s

/-- `BIT 1,D` (R273). -/
def exec_bit_1_d (s : State) : Result := bitStep 1 (.reg .d) s

/-- `BIT 1,E` (R273). -/
def exec_bit_1_e (s : State) : Result := bitStep 1 (.reg .e) s

/-- `BIT 1,H` (R273). -/
def exec_bit_1_h (s : State) : Result := bitStep 1 (.reg .h) s

/-- `BIT 1,L` (R273). -/
def exec_bit_1_l (s : State) : Result := bitStep 1 (.reg .l) s

/-- `BIT 1,(HL)` (R273). -/
def exec_bit_1_atHL (s : State) : Result := bitStep 1 .atHL s

/-- `BIT 1,A` (R273). -/
def exec_bit_1_a (s : State) : Result := bitStep 1 (.reg .a) s

/-- `BIT 2,B` (R273). -/
def exec_bit_2_b (s : State) : Result := bitStep 2 (.reg .b) s

/-- `BIT 2,C` (R273). -/
def exec_bit_2_c (s : State) : Result := bitStep 2 (.reg .c) s

/-- `BIT 2,D` (R273). -/
def exec_bit_2_d (s : State) : Result := bitStep 2 (.reg .d) s

/-- `BIT 2,E` (R273). -/
def exec_bit_2_e (s : State) : Result := bitStep 2 (.reg .e) s

/-- `BIT 2,H` (R273). -/
def exec_bit_2_h (s : State) : Result := bitStep 2 (.reg .h) s

/-- `BIT 2,L` (R273). -/
def exec_bit_2_l (s : State) : Result := bitStep 2 (.reg .l) s

/-- `BIT 2,(HL)` (R273). -/
def exec_bit_2_atHL (s : State) : Result := bitStep 2 .atHL s

/-- `BIT 2,A` (R273). -/
def exec_bit_2_a (s : State) : Result := bitStep 2 (.reg .a) s

/-- `BIT 3,B` (R273). -/
def exec_bit_3_b (s : State) : Result := bitStep 3 (.reg .b) s

/-- `BIT 3,C` (R273). -/
def exec_bit_3_c (s : State) : Result := bitStep 3 (.reg .c) s

/-- `BIT 3,D` (R273). -/
def exec_bit_3_d (s : State) : Result := bitStep 3 (.reg .d) s

/-- `BIT 3,E` (R273). -/
def exec_bit_3_e (s : State) : Result := bitStep 3 (.reg .e) s

/-- `BIT 3,H` (R273). -/
def exec_bit_3_h (s : State) : Result := bitStep 3 (.reg .h) s

/-- `BIT 3,L` (R273). -/
def exec_bit_3_l (s : State) : Result := bitStep 3 (.reg .l) s

/-- `BIT 3,(HL)` (R273). -/
def exec_bit_3_atHL (s : State) : Result := bitStep 3 .atHL s

/-- `BIT 3,A` (R273). -/
def exec_bit_3_a (s : State) : Result := bitStep 3 (.reg .a) s

/-- `BIT 4,B` (R273). -/
def exec_bit_4_b (s : State) : Result := bitStep 4 (.reg .b) s

/-- `BIT 4,C` (R273). -/
def exec_bit_4_c (s : State) : Result := bitStep 4 (.reg .c) s

/-- `BIT 4,D` (R273). -/
def exec_bit_4_d (s : State) : Result := bitStep 4 (.reg .d) s

/-- `BIT 4,E` (R273). -/
def exec_bit_4_e (s : State) : Result := bitStep 4 (.reg .e) s

/-- `BIT 4,H` (R273). -/
def exec_bit_4_h (s : State) : Result := bitStep 4 (.reg .h) s

/-- `BIT 4,L` (R273). -/
def exec_bit_4_l (s : State) : Result := bitStep 4 (.reg .l) s

/-- `BIT 4,(HL)` (R273). -/
def exec_bit_4_atHL (s : State) : Result := bitStep 4 .atHL s

/-- `BIT 4,A` (R273). -/
def exec_bit_4_a (s : State) : Result := bitStep 4 (.reg .a) s

/-- `BIT 5,B` (R273). -/
def exec_bit_5_b (s : State) : Result := bitStep 5 (.reg .b) s

/-- `BIT 5,C` (R273). -/
def exec_bit_5_c (s : State) : Result := bitStep 5 (.reg .c) s

/-- `BIT 5,D` (R273). -/
def exec_bit_5_d (s : State) : Result := bitStep 5 (.reg .d) s

/-- `BIT 5,E` (R273). -/
def exec_bit_5_e (s : State) : Result := bitStep 5 (.reg .e) s

/-- `BIT 5,H` (R273). -/
def exec_bit_5_h (s : State) : Result := bitStep 5 (.reg .h) s

/-- `BIT 5,L` (R273). -/
def exec_bit_5_l (s : State) : Result := bitStep 5 (.reg .l) s

/-- `BIT 5,(HL)` (R273). -/
def exec_bit_5_atHL (s : State) : Result := bitStep 5 .atHL s

/-- `BIT 5,A` (R273). -/
def exec_bit_5_a (s : State) : Result := bitStep 5 (.reg .a) s

/-- `BIT 6,B` (R273). -/
def exec_bit_6_b (s : State) : Result := bitStep 6 (.reg .b) s

/-- `BIT 6,C` (R273). -/
def exec_bit_6_c (s : State) : Result := bitStep 6 (.reg .c) s

/-- `BIT 6,D` (R273). -/
def exec_bit_6_d (s : State) : Result := bitStep 6 (.reg .d) s

/-- `BIT 6,E` (R273). -/
def exec_bit_6_e (s : State) : Result := bitStep 6 (.reg .e) s

/-- `BIT 6,H` (R273). -/
def exec_bit_6_h (s : State) : Result := bitStep 6 (.reg .h) s

/-- `BIT 6,L` (R273). -/
def exec_bit_6_l (s : State) : Result := bitStep 6 (.reg .l) s

/-- `BIT 6,(HL)` (R273). -/
def exec_bit_6_atHL (s : State) : Result := bitStep 6 .atHL s

/-- `BIT 6,A` (R273). -/
def exec_bit_6_a (s : State) : Result := bitStep 6 (.reg .a) s

/-- `BIT 7,B` (R273). -/
def exec_bit_7_b (s : State) : Result := bitStep 7 (.reg .b) s

/-- `BIT 7,C` (R273). -/
def exec_bit_7_c (s : State) : Result := bitStep 7 (.reg .c) s

/-- `BIT 7,D` (R273). -/
def exec_bit_7_d (s : State) : Result := bitStep 7 (.reg .d) s

/-- `BIT 7,E` (R273). -/
def exec_bit_7_e (s : State) : Result := bitStep 7 (.reg .e) s

/-- `BIT 7,H` (R273). -/
def exec_bit_7_h (s : State) : Result := bitStep 7 (.reg .h) s

/-- `BIT 7,L` (R273). -/
def exec_bit_7_l (s : State) : Result := bitStep 7 (.reg .l) s

/-- `BIT 7,(HL)` (R273). -/
def exec_bit_7_atHL (s : State) : Result := bitStep 7 .atHL s

/-- `BIT 7,A` (R273). -/
def exec_bit_7_a (s : State) : Result := bitStep 7 (.reg .a) s

/-- `RES 0,B` (R274). -/
def exec_res_0_b (s : State) : Result := resStep 0 (.reg .b) s

/-- `RES 0,C` (R274). -/
def exec_res_0_c (s : State) : Result := resStep 0 (.reg .c) s

/-- `RES 0,D` (R274). -/
def exec_res_0_d (s : State) : Result := resStep 0 (.reg .d) s

/-- `RES 0,E` (R274). -/
def exec_res_0_e (s : State) : Result := resStep 0 (.reg .e) s

/-- `RES 0,H` (R274). -/
def exec_res_0_h (s : State) : Result := resStep 0 (.reg .h) s

/-- `RES 0,L` (R274). -/
def exec_res_0_l (s : State) : Result := resStep 0 (.reg .l) s

/-- `RES 0,(HL)` (R274). -/
def exec_res_0_atHL (s : State) : Result := resStep 0 .atHL s

/-- `RES 0,A` (R274). -/
def exec_res_0_a (s : State) : Result := resStep 0 (.reg .a) s

/-- `RES 1,B` (R274). -/
def exec_res_1_b (s : State) : Result := resStep 1 (.reg .b) s

/-- `RES 1,C` (R274). -/
def exec_res_1_c (s : State) : Result := resStep 1 (.reg .c) s

/-- `RES 1,D` (R274). -/
def exec_res_1_d (s : State) : Result := resStep 1 (.reg .d) s

/-- `RES 1,E` (R274). -/
def exec_res_1_e (s : State) : Result := resStep 1 (.reg .e) s

/-- `RES 1,H` (R274). -/
def exec_res_1_h (s : State) : Result := resStep 1 (.reg .h) s

/-- `RES 1,L` (R274). -/
def exec_res_1_l (s : State) : Result := resStep 1 (.reg .l) s

/-- `RES 1,(HL)` (R274). -/
def exec_res_1_atHL (s : State) : Result := resStep 1 .atHL s

/-- `RES 1,A` (R274). -/
def exec_res_1_a (s : State) : Result := resStep 1 (.reg .a) s

/-- `RES 2,B` (R274). -/
def exec_res_2_b (s : State) : Result := resStep 2 (.reg .b) s

/-- `RES 2,C` (R274). -/
def exec_res_2_c (s : State) : Result := resStep 2 (.reg .c) s

/-- `RES 2,D` (R274). -/
def exec_res_2_d (s : State) : Result := resStep 2 (.reg .d) s

/-- `RES 2,E` (R274). -/
def exec_res_2_e (s : State) : Result := resStep 2 (.reg .e) s

/-- `RES 2,H` (R274). -/
def exec_res_2_h (s : State) : Result := resStep 2 (.reg .h) s

/-- `RES 2,L` (R274). -/
def exec_res_2_l (s : State) : Result := resStep 2 (.reg .l) s

/-- `RES 2,(HL)` (R274). -/
def exec_res_2_atHL (s : State) : Result := resStep 2 .atHL s

/-- `RES 2,A` (R274). -/
def exec_res_2_a (s : State) : Result := resStep 2 (.reg .a) s

/-- `RES 3,B` (R274). -/
def exec_res_3_b (s : State) : Result := resStep 3 (.reg .b) s

/-- `RES 3,C` (R274). -/
def exec_res_3_c (s : State) : Result := resStep 3 (.reg .c) s

/-- `RES 3,D` (R274). -/
def exec_res_3_d (s : State) : Result := resStep 3 (.reg .d) s

/-- `RES 3,E` (R274). -/
def exec_res_3_e (s : State) : Result := resStep 3 (.reg .e) s

/-- `RES 3,H` (R274). -/
def exec_res_3_h (s : State) : Result := resStep 3 (.reg .h) s

/-- `RES 3,L` (R274). -/
def exec_res_3_l (s : State) : Result := resStep 3 (.reg .l) s

/-- `RES 3,(HL)` (R274). -/
def exec_res_3_atHL (s : State) : Result := resStep 3 .atHL s

/-- `RES 3,A` (R274). -/
def exec_res_3_a (s : State) : Result := resStep 3 (.reg .a) s

/-- `RES 4,B` (R274). -/
def exec_res_4_b (s : State) : Result := resStep 4 (.reg .b) s

/-- `RES 4,C` (R274). -/
def exec_res_4_c (s : State) : Result := resStep 4 (.reg .c) s

/-- `RES 4,D` (R274). -/
def exec_res_4_d (s : State) : Result := resStep 4 (.reg .d) s

/-- `RES 4,E` (R274). -/
def exec_res_4_e (s : State) : Result := resStep 4 (.reg .e) s

/-- `RES 4,H` (R274). -/
def exec_res_4_h (s : State) : Result := resStep 4 (.reg .h) s

/-- `RES 4,L` (R274). -/
def exec_res_4_l (s : State) : Result := resStep 4 (.reg .l) s

/-- `RES 4,(HL)` (R274). -/
def exec_res_4_atHL (s : State) : Result := resStep 4 .atHL s

/-- `RES 4,A` (R274). -/
def exec_res_4_a (s : State) : Result := resStep 4 (.reg .a) s

/-- `RES 5,B` (R274). -/
def exec_res_5_b (s : State) : Result := resStep 5 (.reg .b) s

/-- `RES 5,C` (R274). -/
def exec_res_5_c (s : State) : Result := resStep 5 (.reg .c) s

/-- `RES 5,D` (R274). -/
def exec_res_5_d (s : State) : Result := resStep 5 (.reg .d) s

/-- `RES 5,E` (R274). -/
def exec_res_5_e (s : State) : Result := resStep 5 (.reg .e) s

/-- `RES 5,H` (R274). -/
def exec_res_5_h (s : State) : Result := resStep 5 (.reg .h) s

/-- `RES 5,L` (R274). -/
def exec_res_5_l (s : State) : Result := resStep 5 (.reg .l) s

/-- `RES 5,(HL)` (R274). -/
def exec_res_5_atHL (s : State) : Result := resStep 5 .atHL s

/-- `RES 5,A` (R274). -/
def exec_res_5_a (s : State) : Result := resStep 5 (.reg .a) s

/-- `RES 6,B` (R274). -/
def exec_res_6_b (s : State) : Result := resStep 6 (.reg .b) s

/-- `RES 6,C` (R274). -/
def exec_res_6_c (s : State) : Result := resStep 6 (.reg .c) s

/-- `RES 6,D` (R274). -/
def exec_res_6_d (s : State) : Result := resStep 6 (.reg .d) s

/-- `RES 6,E` (R274). -/
def exec_res_6_e (s : State) : Result := resStep 6 (.reg .e) s

/-- `RES 6,H` (R274). -/
def exec_res_6_h (s : State) : Result := resStep 6 (.reg .h) s

/-- `RES 6,L` (R274). -/
def exec_res_6_l (s : State) : Result := resStep 6 (.reg .l) s

/-- `RES 6,(HL)` (R274). -/
def exec_res_6_atHL (s : State) : Result := resStep 6 .atHL s

/-- `RES 6,A` (R274). -/
def exec_res_6_a (s : State) : Result := resStep 6 (.reg .a) s

/-- `RES 7,B` (R274). -/
def exec_res_7_b (s : State) : Result := resStep 7 (.reg .b) s

/-- `RES 7,C` (R274). -/
def exec_res_7_c (s : State) : Result := resStep 7 (.reg .c) s

/-- `RES 7,D` (R274). -/
def exec_res_7_d (s : State) : Result := resStep 7 (.reg .d) s

/-- `RES 7,E` (R274). -/
def exec_res_7_e (s : State) : Result := resStep 7 (.reg .e) s

/-- `RES 7,H` (R274). -/
def exec_res_7_h (s : State) : Result := resStep 7 (.reg .h) s

/-- `RES 7,L` (R274). -/
def exec_res_7_l (s : State) : Result := resStep 7 (.reg .l) s

/-- `RES 7,(HL)` (R274). -/
def exec_res_7_atHL (s : State) : Result := resStep 7 .atHL s

/-- `RES 7,A` (R274). -/
def exec_res_7_a (s : State) : Result := resStep 7 (.reg .a) s

/-- `SET 0,B` (R275). -/
def exec_set_0_b (s : State) : Result := setStep 0 (.reg .b) s

/-- `SET 0,C` (R275). -/
def exec_set_0_c (s : State) : Result := setStep 0 (.reg .c) s

/-- `SET 0,D` (R275). -/
def exec_set_0_d (s : State) : Result := setStep 0 (.reg .d) s

/-- `SET 0,E` (R275). -/
def exec_set_0_e (s : State) : Result := setStep 0 (.reg .e) s

/-- `SET 0,H` (R275). -/
def exec_set_0_h (s : State) : Result := setStep 0 (.reg .h) s

/-- `SET 0,L` (R275). -/
def exec_set_0_l (s : State) : Result := setStep 0 (.reg .l) s

/-- `SET 0,(HL)` (R275). -/
def exec_set_0_atHL (s : State) : Result := setStep 0 .atHL s

/-- `SET 0,A` (R275). -/
def exec_set_0_a (s : State) : Result := setStep 0 (.reg .a) s

/-- `SET 1,B` (R275). -/
def exec_set_1_b (s : State) : Result := setStep 1 (.reg .b) s

/-- `SET 1,C` (R275). -/
def exec_set_1_c (s : State) : Result := setStep 1 (.reg .c) s

/-- `SET 1,D` (R275). -/
def exec_set_1_d (s : State) : Result := setStep 1 (.reg .d) s

/-- `SET 1,E` (R275). -/
def exec_set_1_e (s : State) : Result := setStep 1 (.reg .e) s

/-- `SET 1,H` (R275). -/
def exec_set_1_h (s : State) : Result := setStep 1 (.reg .h) s

/-- `SET 1,L` (R275). -/
def exec_set_1_l (s : State) : Result := setStep 1 (.reg .l) s

/-- `SET 1,(HL)` (R275). -/
def exec_set_1_atHL (s : State) : Result := setStep 1 .atHL s

/-- `SET 1,A` (R275). -/
def exec_set_1_a (s : State) : Result := setStep 1 (.reg .a) s

/-- `SET 2,B` (R275). -/
def exec_set_2_b (s : State) : Result := setStep 2 (.reg .b) s

/-- `SET 2,C` (R275). -/
def exec_set_2_c (s : State) : Result := setStep 2 (.reg .c) s

/-- `SET 2,D` (R275). -/
def exec_set_2_d (s : State) : Result := setStep 2 (.reg .d) s

/-- `SET 2,E` (R275). -/
def exec_set_2_e (s : State) : Result := setStep 2 (.reg .e) s

/-- `SET 2,H` (R275). -/
def exec_set_2_h (s : State) : Result := setStep 2 (.reg .h) s

/-- `SET 2,L` (R275). -/
def exec_set_2_l (s : State) : Result := setStep 2 (.reg .l) s

/-- `SET 2,(HL)` (R275). -/
def exec_set_2_atHL (s : State) : Result := setStep 2 .atHL s

/-- `SET 2,A` (R275). -/
def exec_set_2_a (s : State) : Result := setStep 2 (.reg .a) s

/-- `SET 3,B` (R275). -/
def exec_set_3_b (s : State) : Result := setStep 3 (.reg .b) s

/-- `SET 3,C` (R275). -/
def exec_set_3_c (s : State) : Result := setStep 3 (.reg .c) s

/-- `SET 3,D` (R275). -/
def exec_set_3_d (s : State) : Result := setStep 3 (.reg .d) s

/-- `SET 3,E` (R275). -/
def exec_set_3_e (s : State) : Result := setStep 3 (.reg .e) s

/-- `SET 3,H` (R275). -/
def exec_set_3_h (s : State) : Result := setStep 3 (.reg .h) s

/-- `SET 3,L` (R275). -/
def exec_set_3_l (s : State) : Result := setStep 3 (.reg .l) s

/-- `SET 3,(HL)` (R275). -/
def exec_set_3_atHL (s : State) : Result := setStep 3 .atHL s

/-- `SET 3,A` (R275). -/
def exec_set_3_a (s : State) : Result := setStep 3 (.reg .a) s

/-- `SET 4,B` (R275). -/
def exec_set_4_b (s : State) : Result := setStep 4 (.reg .b) s

/-- `SET 4,C` (R275). -/
def exec_set_4_c (s : State) : Result := setStep 4 (.reg .c) s

/-- `SET 4,D` (R275). -/
def exec_set_4_d (s : State) : Result := setStep 4 (.reg .d) s

/-- `SET 4,E` (R275). -/
def exec_set_4_e (s : State) : Result := setStep 4 (.reg .e) s

/-- `SET 4,H` (R275). -/
def exec_set_4_h (s : State) : Result := setStep 4 (.reg .h) s

/-- `SET 4,L` (R275). -/
def exec_set_4_l (s : State) : Result := setStep 4 (.reg .l) s

/-- `SET 4,(HL)` (R275). -/
def exec_set_4_atHL (s : State) : Result := setStep 4 .atHL s

/-- `SET 4,A` (R275). -/
def exec_set_4_a (s : State) : Result := setStep 4 (.reg .a) s

/-- `SET 5,B` (R275). -/
def exec_set_5_b (s : State) : Result := setStep 5 (.reg .b) s

/-- `SET 5,C` (R275). -/
def exec_set_5_c (s : State) : Result := setStep 5 (.reg .c) s

/-- `SET 5,D` (R275). -/
def exec_set_5_d (s : State) : Result := setStep 5 (.reg .d) s

/-- `SET 5,E` (R275). -/
def exec_set_5_e (s : State) : Result := setStep 5 (.reg .e) s

/-- `SET 5,H` (R275). -/
def exec_set_5_h (s : State) : Result := setStep 5 (.reg .h) s

/-- `SET 5,L` (R275). -/
def exec_set_5_l (s : State) : Result := setStep 5 (.reg .l) s

/-- `SET 5,(HL)` (R275). -/
def exec_set_5_atHL (s : State) : Result := setStep 5 .atHL s

/-- `SET 5,A` (R275). -/
def exec_set_5_a (s : State) : Result := setStep 5 (.reg .a) s

/-- `SET 6,B` (R275). -/
def exec_set_6_b (s : State) : Result := setStep 6 (.reg .b) s

/-- `SET 6,C` (R275). -/
def exec_set_6_c (s : State) : Result := setStep 6 (.reg .c) s

/-- `SET 6,D` (R275). -/
def exec_set_6_d (s : State) : Result := setStep 6 (.reg .d) s

/-- `SET 6,E` (R275). -/
def exec_set_6_e (s : State) : Result := setStep 6 (.reg .e) s

/-- `SET 6,H` (R275). -/
def exec_set_6_h (s : State) : Result := setStep 6 (.reg .h) s

/-- `SET 6,L` (R275). -/
def exec_set_6_l (s : State) : Result := setStep 6 (.reg .l) s

/-- `SET 6,(HL)` (R275). -/
def exec_set_6_atHL (s : State) : Result := setStep 6 .atHL s

/-- `SET 6,A` (R275). -/
def exec_set_6_a (s : State) : Result := setStep 6 (.reg .a) s

/-- `SET 7,B` (R275). -/
def exec_set_7_b (s : State) : Result := setStep 7 (.reg .b) s

/-- `SET 7,C` (R275). -/
def exec_set_7_c (s : State) : Result := setStep 7 (.reg .c) s

/-- `SET 7,D` (R275). -/
def exec_set_7_d (s : State) : Result := setStep 7 (.reg .d) s

/-- `SET 7,E` (R275). -/
def exec_set_7_e (s : State) : Result := setStep 7 (.reg .e) s

/-- `SET 7,H` (R275). -/
def exec_set_7_h (s : State) : Result := setStep 7 (.reg .h) s

/-- `SET 7,L` (R275). -/
def exec_set_7_l (s : State) : Result := setStep 7 (.reg .l) s

/-- `SET 7,(HL)` (R275). -/
def exec_set_7_atHL (s : State) : Result := setStep 7 .atHL s

/-- `SET 7,A` (R275). -/
def exec_set_7_a (s : State) : Result := setStep 7 (.reg .a) s

end Sys2Proof.Machine
end

