-- ==== Sys2Proof/Machine/Unhandled.lean ====
section
/-! DEFINITION. The 16 first bytes that select no instruction (spec R100, R101, R242): each raises `UnhandledOpcode` (R360). -/

namespace Sys2Proof.Machine

/-- `UNHANDLED (STOP)` (R360). -/
def exec_unhandled_stop (s : State) : Result := raiseUnhandled .main 0x10#8 s

/-- `UNHANDLED (HALT)` (R360). -/
def exec_unhandled_halt (s : State) : Result := raiseUnhandled .main 0x76#8 s

/-- `UNHANDLED` (R360). -/
def exec_unhandled_D3 (s : State) : Result := raiseUnhandled .main 0xD3#8 s

/-- `UNHANDLED (RETI)` (R360). -/
def exec_unhandled_reti (s : State) : Result := raiseUnhandled .main 0xD9#8 s

/-- `UNHANDLED` (R360). -/
def exec_unhandled_DB (s : State) : Result := raiseUnhandled .main 0xDB#8 s

/-- `UNHANDLED` (R360). -/
def exec_unhandled_DD (s : State) : Result := raiseUnhandled .main 0xDD#8 s

/-- `UNHANDLED` (R360). -/
def exec_unhandled_E3 (s : State) : Result := raiseUnhandled .main 0xE3#8 s

/-- `UNHANDLED` (R360). -/
def exec_unhandled_E4 (s : State) : Result := raiseUnhandled .main 0xE4#8 s

/-- `UNHANDLED` (R360). -/
def exec_unhandled_EB (s : State) : Result := raiseUnhandled .main 0xEB#8 s

/-- `UNHANDLED` (R360). -/
def exec_unhandled_EC (s : State) : Result := raiseUnhandled .main 0xEC#8 s

/-- `UNHANDLED` (R360). -/
def exec_unhandled_ED (s : State) : Result := raiseUnhandled .main 0xED#8 s

/-- `UNHANDLED (DI)` (R360). -/
def exec_unhandled_di (s : State) : Result := raiseUnhandled .main 0xF3#8 s

/-- `UNHANDLED` (R360). -/
def exec_unhandled_F4 (s : State) : Result := raiseUnhandled .main 0xF4#8 s

/-- `UNHANDLED (EI)` (R360). -/
def exec_unhandled_ei (s : State) : Result := raiseUnhandled .main 0xFB#8 s

/-- `UNHANDLED` (R360). -/
def exec_unhandled_FC (s : State) : Result := raiseUnhandled .main 0xFC#8 s

/-- `UNHANDLED` (R360). -/
def exec_unhandled_FD (s : State) : Result := raiseUnhandled .main 0xFD#8 s

end Sys2Proof.Machine
end

