-- ==== Sys2Proof/Machine/Fifo.lean ====
section
/-! DEFINITION. The pixel FIFO (spec R337 to R339): a sequence, oldest first, of at most `Config.fifoCapacity` pixels. -/

namespace Sys2Proof.Machine

/-- `FifoSize()` (R337). -/
def Ppu.fifoSize (u : Ppu) : Nat := u.fifo.length

/-- `FifoPush(p)` (R337); on a full FIFO the pixel is lost and the violation counted (R338, log 14). -/
def Ppu.fifoPush (u : Ppu) (p : Pixel) : Ppu :=
  if u.fifoSize < Config.fifoCapacity then { u with fifo := u.fifo ++ [p] }
  else { u with violations := u.violations + 1 }

/-- `FifoPop()` (R337); on an empty FIFO there is no pixel and the violation is counted (R338, log 14). -/
def Ppu.fifoPop (u : Ppu) : Option Pixel × Ppu :=
  match u.fifo with
  | [] => (none, { u with violations := u.violations + 1 })
  | p :: rest => (some p, { u with fifo := rest })

/-- `FifoClear()` (R337). -/
def Ppu.fifoClear (u : Ppu) : Ppu := { u with fifo := [] }

/-- Push pixels in the order of the list. -/
def Ppu.fifoPushAll (u : Ppu) (ps : List Pixel) : Ppu :=
  match ps with
  | [] => u
  | p :: rest => (u.fifoPush p).fifoPushAll rest

/-- Append a call to the display-sink trace (R35, R306). -/
def Ppu.emit (u : Ppu) (call : SinkCall) : Ppu := { u with sink := u.sink ++ [call] }

end Sys2Proof.Machine
end

