-- ==== Sys2Proof/Machine/Fetcher.lean ====
section
/-! DEFINITION. The tile fetcher and the layout of tile map and tile data (spec `48_tile_fetcher_fifo.md`, R330 to R336). -/

namespace Sys2Proof.Machine

/-- `pix[0..7]`, in order. -/
def PixelRow.toList (r : PixelRow) : List Pixel := [r.p0, r.p1, r.p2, r.p3, r.p4, r.p5, r.p6, r.p7]

/-- The pixel whose low bit is `lo` and whose high bit is `hi` (R334). -/
def pixelOf (lo hi : Bool) : Pixel := BitVec.ofNat 2 (lo.toNat + 2 * hi.toNat)

/-- `pix[k] <- lo[7-k]` (R333). -/
def PixelRow.ofLow (lo : Byte) : PixelRow where
  p0 := pixelOf (lo.getLsbD 7) false
  p1 := pixelOf (lo.getLsbD 6) false
  p2 := pixelOf (lo.getLsbD 5) false
  p3 := pixelOf (lo.getLsbD 4) false
  p4 := pixelOf (lo.getLsbD 3) false
  p5 := pixelOf (lo.getLsbD 2) false
  p6 := pixelOf (lo.getLsbD 1) false
  p7 := pixelOf (lo.getLsbD 0) false

/-- `pix[k] <- pix[k] OR (hi[7-k] << 1)` (R334). -/
def PixelRow.orHigh (r : PixelRow) (hi : Byte) : PixelRow where
  p0 := r.p0 ||| pixelOf false (hi.getLsbD 7)
  p1 := r.p1 ||| pixelOf false (hi.getLsbD 6)
  p2 := r.p2 ||| pixelOf false (hi.getLsbD 5)
  p3 := r.p3 ||| pixelOf false (hi.getLsbD 4)
  p4 := r.p4 ||| pixelOf false (hi.getLsbD 3)
  p5 := r.p5 ||| pixelOf false (hi.getLsbD 2)
  p6 := r.p6 ||| pixelOf false (hi.getLsbD 1)
  p7 := r.p7 ||| pixelOf false (hi.getLsbD 0)

/-- `TILE_DATA_BASE + 16*tileId + 2*tileLine`, modulo 65536: the bit-plane 0 byte (R333, R336, log 19). -/
def tileAddr (tileId : Byte) (tileLine : Nat) : Word :=
  Config.tileDataBase + BitVec.ofNat 16 (Config.tileBytes * tileId.toNat + 2 * tileLine)

/-- `BG_MAP_BASE + (ly div 8) * 32`: the row of the tile map that scanline `ly` shows (R301). -/
def mapRowAddr (ly : Nat) : Word := Config.bgMapBase + BitVec.ofNat 16 (ly / Config.tileLines * Config.mapRowTiles)

/-- `FetcherStart(mapAddress, line)` (R330). -/
def Ppu.fetcherStart (u : Ppu) (mapAddress : Word) (line : Nat) : Ppu :=
  Ppu.fifoClear { u with
    tileIndex := 0
    mapAddr := mapAddress
    tileLine := line
    fstate := .readTileIndex
    fticks := 0 }

/-- One fetcher step, by `fstate` (R332 to R335). -/
def Ppu.fetcherStep (u : Ppu) (m : Memory) : Ppu :=
  match u.fstate with
  | .readTileIndex =>
    { u with tileId := m.read (u.mapAddr + BitVec.ofNat 16 u.tileIndex).toNat, fstate := .readLowPlane }
  | .readLowPlane =>
    { u with pix := PixelRow.ofLow (m.read (tileAddr u.tileId u.tileLine).toNat), fstate := .readHighPlane }
  | .readHighPlane =>
    { u with pix := u.pix.orHigh (m.read (tileAddr u.tileId u.tileLine + 1).toNat), fstate := .pushToFifo }
  | .pushToFifo =>
    if u.fifoSize ≤ Config.fifoPushAtMost then
      { u.fifoPushAll u.pix.toList with tileIndex := u.tileIndex + 1, fstate := .readTileIndex }
    else u

/-- `FetcherTick()`: one step per two calls, on the second (R331). -/
def Ppu.fetcherTick (u : Ppu) (m : Memory) : Ppu :=
  if u.fticks + 1 < Config.fetcherDivider then { u with fticks := u.fticks + 1 }
  else Ppu.fetcherStep { u with fticks := 0 } m

end Sys2Proof.Machine
end

