-- ==== Sys2Proof/Machine/Ppu.lean ====
section
/-! DEFINITION. The scanline machine (spec `47_ppu_scanline_fsm.md`, R300 to R306) and the driver's ticks (R393). In each
branch `u` is the PPU after `ticks <- ticks + 1`. -/

namespace Sys2Proof.Machine

/-- `ObjectSearch` (R301). -/
def Ppu.objectSearchTick (u : Ppu) : Ppu :=
  if u.ticks = Config.oamTicks then
    { Ppu.fetcherStart { u with x := 0 } (mapRowAddr u.ly) (u.ly % Config.tileLines) with mode := .pixelTransfer }
  else u

/-- The pixel `p` has left the FIFO: `SinkPixel(p)`, count it, and end the line at the 160th (R302). -/
def Ppu.showPixel (u : Ppu) (p : Pixel) : Ppu :=
  let v := { u.emit (.pixel p) with x := u.x + 1 }
  if v.x = Config.lineWidth then { v.emit .endOfLine with mode := .hBlank } else v

/-- At most one pixel leaves per tick, when the FIFO holds more than 8 (R302). -/
def Ppu.drain (u : Ppu) : Ppu :=
  if u.fifoSize > Config.fifoPopAbove then
    match u.fifoPop with
    | (some p, v) => v.showPixel p
    | (none, v) => v
  else u

/-- `PixelTransfer`: the fetcher first, then the FIFO (R302). -/
def Ppu.pixelTransferTick (u : Ppu) (m : Memory) : Ppu := (u.fetcherTick m).drain

/-- `MemWrite(LY_ADDR, 1, ly)` (R305, log 13). -/
def State.writeLy (s : State) (ly : Nat) : State := s.writeByte Config.lyAddr (BitVec.ofNat 8 ly)

/-- `HBlank` (R303): on tick 456 the line ends. -/
def hBlankTick (s : State) (u : Ppu) : State :=
  if u.ticks = Config.lineTicks then
    let v := { u with ticks := 0, ly := u.ly + 1 }
    let w := if v.ly = Config.visibleLines then { v.emit .endOfFrame with mode := .vBlank } else { v with mode := .objectSearch }
    State.writeLy { s with ppu := w } v.ly
  else { s with ppu := u }

/-- `VBlank` (R304): on tick 456 the line ends; after line 153 the frame starts again. -/
def vBlankTick (s : State) (u : Ppu) : State :=
  if u.ticks = Config.lineTicks then
    let v := { u with ticks := 0 }
    let w := if v.ly = Config.totalLines - 1 then { v with ly := 0, mode := .objectSearch } else { v with ly := v.ly + 1 }
    State.writeLy { s with ppu := w } w.ly
  else { s with ppu := u }

/-- `PpuTick()` (R300): count the tick, then act by the state the machine was in when the tick began. -/
def ppuTick (s : State) : State :=
  let u := { s.ppu with ticks := s.ppu.ticks + 1 }
  match s.ppu.mode with
  | .objectSearch => { s with ppu := u.objectSearchTick }
  | .pixelTransfer => { s with ppu := u.pixelTransferTick s.mem }
  | .hBlank => hBlankTick s u
  | .vBlank => vBlankTick s u

/-- `n` ticks. -/
def ppuTicks (n : Nat) (s : State) : State :=
  match n with
  | 0 => s
  | k + 1 => ppuTicks k (ppuTick s)

/-- What the driver does after a `CpuStep` (R393): nothing if the core has faulted, else `TICKS_PER_STEP` ticks. -/
def driveTicks (s : State) : State :=
  match s.status with
  | .running => ppuTicks Config.ticksPerStep s
  | .faulted _ _ _ => s

end Sys2Proof.Machine
end

