-- ==== Sys2Proof/Machine/Step.lean ====
section
/-! DEFINITION. The two transitions of the machine and the driver's loop (spec R90, R300, R393). -/

namespace Sys2Proof.Machine

/-- `CpuStep()` (R90): requires the status `Running`; fetch, decode, execute. -/
def cpuStep (s : State) : Host.Outcome State Fault Refusal :=
  match s.status with
  | .running => exec (fetch s) s
  | .faulted table opcode pc => .fault (.runEnded table opcode pc)

/-- One pass of the driver's loop (R393): `CpuStep`, then, unless it faulted, `TICKS_PER_STEP` times `PpuTick` (log 1). -/
def step (s : State) : Host.Outcome State Fault Refusal :=
  match cpuStep s with
  | .next t => .next (driveTicks t)
  | .fault r => .fault r
  | .refused r => .refused r

/-- `s` with an instruction word of the opcode table stored at `PC` (three bytes, zeros above `nbits`) and the core running,
so that the next step runs that instruction (log 7, log 9). -/
def State.withFetchWord (s : State) (nbits w : Nat) : State :=
  { s.placeBytes s.pc (tableBytes nbits w) with status := .running }

end Sys2Proof.Machine
end

