-- ==== Sys2Proof/Safety.lean ====
section
/-! DEFINITION. What a safe run is and the invariants of the machine, in the terms the statements use. -/

namespace Sys2Proof.Machine

/-- The core has not faulted (R34). -/
def State.isRunning (s : State) : Prop := s.status = .running

/-- `F[3:0]` is zero (R25). -/
def State.flagsWf (s : State) : Prop := s.f &&& 0x0F#8 = 0#8

/-- `x` at the end of line tick `t` of `PixelTransfer`: one pixel per tick from tick 56 on (R309). -/
def pixelsShown (t : Nat) : Nat := t - 55

/-- The FIFO size at the end of line tick `t` of `PixelTransfer` (the table of R309). -/
def fifoLevel (t : Nat) : Nat := if t < 48 then 0 else if t < 56 then 8 else 15 - (t - 56) % 8

/-- `fstate` at the end of line tick `t` of `PixelTransfer` (the table of R309). -/
def fetchPhase (t : Nat) : FetchState :=
  match (t - 40) / 2 % 4 with
  | 0 => .readTileIndex
  | 1 => .readLowPlane
  | 2 => .readHighPlane
  | _ => .pushToFifo

/-- What a line leaves behind until the next `FetcherStart`: 160 pixels shown, 8 pixels in the FIFO, the fetcher frozen
(the last row of the table of R309). -/
def Ppu.lineOver (u : Ppu) : Prop :=
  u.x = 160 ∧ u.fifo.length = 8 ∧ u.tileIndex = 21 ∧ u.fticks = 1 ∧ u.fstate = .pushToFifo

/-- The control state of the PPU is where the table of R309 puts it for its line tick: the invariant of the pipeline
(R31, R32, R307, R309). -/
def Ppu.onSchedule (u : Ppu) : Prop :=
  match u.mode with
  | .objectSearch => u.ticks < 40 ∧ u.ly < 144 ∧ u.x ≤ 160 ∧ u.fifo.length ≤ 8 ∧ u.tileIndex ≤ 21 ∧ u.fticks ≤ 1
  | .pixelTransfer =>
    40 ≤ u.ticks ∧ u.ticks < 215 ∧ u.ly < 144 ∧ u.x = pixelsShown u.ticks ∧ u.fifo.length = fifoLevel u.ticks ∧
      u.tileIndex = (u.ticks - 40) / 8 ∧ u.fticks = (u.ticks - 40) % 2 ∧ u.fstate = fetchPhase u.ticks ∧
      u.tileLine = u.ly % 8 ∧ u.mapAddr = mapRowAddr u.ly
  | .hBlank => 215 ≤ u.ticks ∧ u.ticks < 456 ∧ u.ly < 144 ∧ u.lineOver
  | .vBlank => u.ticks < 456 ∧ 144 ≤ u.ly ∧ u.ly < 154 ∧ u.lineOver

/-- The invariant of the machine: canonical memory, `F[3:0] = 0` (R25), the PPU on its schedule (R309). -/
structure State.Inv (s : State) : Prop where
  memory : s.mem.wf = true
  flags : s.flagsWf
  schedule : s.ppu.onSchedule

/-- The run of `k` steps from `s` ends in a running state: no unhandled opcode was met (R363, R396). -/
def State.runsFor (s : State) (k : Nat) : Prop := ∃ t, core.run k s = .next t ∧ t.isRunning

end Sys2Proof.Machine
end

