-- ==== Sys2Proof/Certificates/Slice0/Obligations.lean ====
section
/-! DEFINITION. The statements for the provers. The helpers below write the spec's codes, flag byte and result formulas a
second time, on natural numbers and integers, so that a statement does not repeat a definition of the model. -/

namespace Sys2Proof.Claims

open Sys2Proof.Machine

/-- A byte from a number, modulo 256. -/
def byte (n : Nat) : Byte := BitVec.ofNat 8 n

/-- `v[15:8]` by division. -/
def high (v : Word) : Byte := byte (v.toNat / 256)

/-- `v[7:0]` by remainder. -/
def low (v : Word) : Byte := byte v.toNat

/-- `F = fZ*0x80 + fN*0x40 + fH*0x20 + fC*0x10` (R24), bit by bit. -/
def flagByte (z n h c : Bool) : Byte := BitVec.ofBool z ++ BitVec.ofBool n ++ BitVec.ofBool h ++ BitVec.ofBool c ++ 0#4

/-- The codes of R93. -/
def regCode (r : Reg) : Nat :=
  match r with
  | .b => 0
  | .c => 1
  | .d => 2
  | .e => 3
  | .h => 4
  | .l => 5
  | .a => 7

/-- The codes of R93, 6 being `(HL)`. -/
def operandCode (o : Operand8) : Nat :=
  match o with
  | .reg r => regCode r
  | .atHL => 6

/-- The codes of R94. -/
def pairCode (p : Pair) : Nat :=
  match p with
  | .bc => 0
  | .de => 1
  | .hl => 2
  | .sp => 3

/-- The codes of R94 for `PUSH` and `POP`. -/
def stackPairCode (p : StackPair) : Nat :=
  match p with
  | .bc => 0
  | .de => 1
  | .hl => 2
  | .af => 3

/-- The codes of R95. -/
def condCode (cc : Cond) : Nat :=
  match cc with
  | .nz => 0
  | .z => 1
  | .nc => 2
  | .c => 3

/-- The truth of a condition, from the bits of `F` (R24, R95, R241). -/
def condHolds (cc : Cond) (f : Byte) : Bool :=
  match cc with
  | .nz => f.getLsbD 7 == false
  | .z => f.getLsbD 7
  | .nc => f.getLsbD 4 == false
  | .c => f.getLsbD 4

/-- The codes of R96. -/
def aluCode (op : AluOp) : Nat :=
  match op with
  | .add => 0
  | .adc => 1
  | .sub => 2
  | .sbc => 3
  | .and => 4
  | .xor => 5
  | .or => 6
  | .cp => 7

/-- The codes of R97. -/
def rotCode (op : RotOp) : Nat :=
  match op with
  | .rlc => 0
  | .rrc => 1
  | .rl => 2
  | .rr => 3
  | .sla => 4
  | .sra => 5
  | .swap => 6
  | .srl => 7

/-- `bytes` is the encoding of `i`: the encoder writes it, and the decoder reads it whatever follows. -/
def encodedAs (bytes : List Byte) (i : Instr) : Prop :=
  encode i = bytes ∧ ∀ rest, decode (bytes ++ rest) = .ok (i, rest)

/-- `i` completes from `s`; of memory exactly the byte at `addr` may change, and it holds `v`; with memory set aside the
next state is `rest`. -/
def stores (i : Instr) (s : State) (addr : Word) (v : Byte) (rest : State) : Prop :=
  ∃ t, exec i s = .next t ∧ (∀ x, t.readByte x = if x = addr then v else s.readByte x) ∧ { t with mem := s.mem } = rest

/-- `i` completes from `s`; of memory exactly the two bytes below `SP` may change, and they hold `v`, high byte at `SP-1`;
with memory set aside the next state is `rest`. -/
def pushes (i : Instr) (s : State) (v : Word) (rest : State) : Prop :=
  ∃ t, exec i s = .next t ∧
    (∀ x, t.readByte x = if x = s.sp - 1 then high v else if x = s.sp - 2 then low v else s.readByte x) ∧
    { t with mem := s.mem } = rest

/-- The three operand forms of R180 for one operation: instruction, bytes, value of the second operand. -/
def aluForms (op : AluOp) (claim : Instr → List Byte → (State → Byte) → Prop) : Prop :=
  (∀ r, claim (aluOperand op (.reg r)) [byte (0x80 + 8 * aluCode op + regCode r)] fun s => s.reg r) ∧
  claim (aluOperand op .atHL) [byte (0x86 + 8 * aluCode op)] (fun s => s.readByte (s.h ++ s.l)) ∧
  (∀ v, claim (aluImm op v) [byte (0xC6 + 8 * aluCode op), v] fun _ => v)

/-- Result and carry out of the rotates and shifts (R265 to R272) of the number `v` with carry in `c`. -/
def rotValue (op : RotOp) (v c : Nat) : Nat × Nat :=
  match op with
  | .rlc => (2 * v + v / 128, v / 128)
  | .rrc => (v / 2 + 128 * (v % 2), v % 2)
  | .rl => (2 * v + c, v / 128)
  | .rr => (v / 2 + 128 * c, v % 2)
  | .sla => (2 * v, v / 128)
  | .sra => (v / 2 + 128 * (v / 128), v % 2)
  | .swap => (16 * (v % 16) + v / 16, 0)
  | .srl => (v / 2, v % 2)

/-- The 16 first bytes outside `SUPPORTED_MAIN` (R100, R101). -/
def unhandledBytes : List Byte :=
  [0xD3#8, 0xDB#8, 0xDD#8, 0xE3#8, 0xE4#8, 0xEB#8, 0xEC#8, 0xED#8, 0xF4#8, 0xFC#8, 0xFD#8,
   0x10#8, 0x76#8, 0xD9#8, 0xF3#8, 0xFB#8]

/-- The first bytes of the control transfers (R231 to R240). -/
def transferBytes : List Byte :=
  [0xC3#8, 0xC2#8, 0xCA#8, 0xD2#8, 0xDA#8, 0xE9#8, 0x18#8, 0x20#8, 0x28#8, 0x30#8, 0x38#8,
   0xCD#8, 0xC4#8, 0xCC#8, 0xD4#8, 0xDC#8, 0xC9#8, 0xC0#8, 0xC8#8, 0xD0#8, 0xD8#8,
   0xC7#8, 0xCF#8, 0xD7#8, 0xDF#8, 0xE7#8, 0xEF#8, 0xF7#8, 0xFF#8]

/-- Two decimal digits in one byte. -/
def bcd (n : Nat) : Byte := byte (16 * (n / 10) + n % 10)

/-- The colour code of R336: pixel `c` of line `l` of tile `id`. -/
def tilePixel (s : State) (id : Byte) (l c : Nat) : Pixel :=
  let plane0 := s.readByte (BitVec.ofNat 16 (0x8000 + 16 * id.toNat + 2 * l))
  let plane1 := s.readByte (BitVec.ofNat 16 (0x8000 + 16 * id.toNat + 2 * l + 1))
  BitVec.ofNat 2 ((plane0.getLsbD (7 - c)).toNat + 2 * (plane1.getLsbD (7 - c)).toNat)

/-- Pixel `col` of scanline `y` (R301, R309 (c), R336). -/
def screenPixel (s : State) (y col : Nat) : Pixel :=
  tilePixel s (s.readByte (BitVec.ofNat 16 (0x9800 + 32 * (y / 8) + col / 8))) (y % 8) (col % 8)

/-- What the sink receives for scanline `y`: 160 pixels, then the end of the line (R306). -/
def lineCalls (s : State) (y : Nat) : List SinkCall :=
  (List.range 160).map (fun col => .pixel (screenPixel s y col)) ++ [.endOfLine]

end Sys2Proof.Claims

open Sys2Proof Sys2Proof.Machine Sys2Proof.Claims

/-! ### Encoding -/

/-- Decoding the encoding of a whole instruction gives it back, whatever bytes follow (R90 to R105). -/
def Obligations.DecodeOfEncode : Prop :=
  ∀ i : Instr, i.wf = true → ∀ rest, decode (encode i ++ rest) = .ok (i, rest)

/-- Whatever decodes is a whole instruction, and the bytes read are exactly its encoding: each byte string has one meaning. -/
def Obligations.EncodeOfDecode : Prop :=
  ∀ bytes i rest, decode bytes = .ok (i, rest) → i.wf = true ∧ encode i ++ rest = bytes

/-- The byte-by-byte tables say the same as the field structure (R98 against R99; R105, R264). -/
def Obligations.ByteTableAgreesWithFields : Prop :=
  ∀ op b1 b2 : Byte, decodeOp op b1 b2 = decodeByFields op b1 b2

/-- A few words written out bit by bit from the formats of R91 and R98: `LD B,C`, `LD SP,d16`, `JR NZ,e8`, `SUB (HL)`,
`PUSH AF`, `RST 0x28`, `BIT 7,H`, `SET 1,E`, and the unhandled 0xD3. -/
def Obligations.SampleWordsDecode : Prop :=
  decode [0b01000001#8] = .ok (.ld_b_c, []) ∧
  decode [0b00110001#8, 0xFE#8, 0xFF#8] = .ok (.ld_sp_d16 0xFFFE#16, []) ∧
  decode [0b00100000#8, 0xFB#8] = .ok (.jr_nz_e8 0xFB#8, []) ∧
  decode [0b10010110#8] = .ok (.sub_atHL, []) ∧
  decode [0b11110101#8] = .ok (.push_af, []) ∧
  decode [0b11101111#8] = .ok (.rst_28, []) ∧
  decode [0xCB#8, 0b01111100#8] = .ok (.bit_7_h, []) ∧
  decode [0xCB#8, 0b11001011#8] = .ok (.set_1_e, []) ∧
  decode [0b11010011#8] = .ok (.unhandled_D3, [])

/-! ### The step, the fault, reset -/

/-- Every instruction completes from every state, and the run status changes only for the 16 unhandled bytes, to
`Faulted(main, byte, PC)`. That a fault is a next state with that status is the model's reading (log 4). -/
def Obligations.EveryInstructionCompletes : Prop :=
  ∀ (i : Instr) (s : State), ∃ t, exec i s = .next t ∧
    t.status = (match encode i with
      | [op] => if op ∈ unhandledBytes then .faulted .main op s.pc else s.status
      | _ => s.status)

/-- A step of a running core executes the instruction that the bytes at `PC` decode to and then, unless that faulted, runs
one tick of the PPU (R90, R393, R394). That a step is one whole pass of the driver is the model's choice (log 1). -/
def Obligations.StepRunsTheDecodedInstruction : Prop :=
  ∀ s i rest t, s.status = .running →
    decode [s.readByte s.pc, s.readByte (s.pc + 1), s.readByte (s.pc + 2)] = .ok (i, rest) →
    exec i s = .next t →
    step s = .next (if t.status = .running then ppuTick t else t)

/-- The 16 unhandled bytes: each is one byte long; its effect is the run status `Faulted(main, op, pc0)` and nothing else; and a
step that fetches one changes nothing else either, the PPU included (R100, R360 to R362; five of the bytes by R101 and decision
D2, log 18). That the fault is a next state with that status is the model's choice (log 4). -/
def Obligations.UnhandledOpcodeFaultIsPrecise : Prop :=
  (∀ op ∈ unhandledBytes, ∃ i, encodedAs [op] i ∧
    ∀ s, exec i s = .next { s with status := .faulted .main op s.pc }) ∧
  (∀ s, s.status = .running → s.readByte s.pc ∈ unhandledBytes →
    step s = .next { s with status := .faulted .main (s.readByte s.pc) s.pc })

/-- A faulted core performs no further step (R34, R363; the fault reason `runEnded` is the model's, log 4). -/
def Obligations.FaultEndsTheRun : Prop :=
  ∀ s table op pc, s.status = .faulted table op pc →
    ∀ k, core.run (k + 1) s = .fault (.runEnded table op pc)

/-- The state after reset, for every boot image and every initial memory content (R36, R37, R40, R390); the values of the fetcher,
the FIFO, the run status and the outputs are the spec's own choice (R38, R39, R41, decision D14, log 16). -/
def Obligations.ResetState : Prop :=
  ∀ (image : List Byte) (memInit : Nat → Byte),
    let s := State.resetWith image memInit
    (s.a = 0 ∧ s.b = 0 ∧ s.c = 0 ∧ s.d = 0 ∧ s.e = 0 ∧ s.h = 0 ∧ s.l = 0 ∧ s.f = 0 ∧ s.pc = 0 ∧ s.sp = 0) ∧
    (∀ a : Word, s.readByte a = if h : a.toNat < image.length then image[a.toNat] else memInit a.toNat) ∧
    (s.ppu.mode = .objectSearch ∧ s.ppu.ly = 0 ∧ s.ppu.x = 0 ∧ s.ppu.ticks = 0) ∧
    (s.ppu.fstate = .readTileIndex ∧ s.ppu.fticks = 0 ∧ s.ppu.tileIndex = 0 ∧ s.ppu.tileLine = 0 ∧ s.ppu.tileId = 0 ∧
      s.ppu.mapAddr = 0 ∧ s.ppu.pix = ⟨0, 0, 0, 0, 0, 0, 0, 0⟩ ∧ s.ppu.fifo = []) ∧
    s.status = .running ∧ s.ppu.sink = [] ∧ s.ppu.violations = 0

/-- `State.reset` is the state after reset for the three known bytes of the boot image and memory bytes 0x00 elsewhere.
The zero bytes are the model's choice (log 2, log 3), not a rule of the spec. -/
def Obligations.ResetIsOneInstance : Prop :=
  State.reset = State.resetWith [0x31#8, 0xFE#8, 0xFF#8] (fun _ => 0x00#8)

/-- The invariant holds after reset, for every boot image and every initial memory content. -/
def Obligations.ResetMeetsInvariant : Prop :=
  ∀ (image : List Byte) (memInit : Nat → Byte), (State.resetWith image memInit).Inv

/-- The first transition after reset, for a boot image that begins 31 FE FF: `SP = 0xFFFE`, `PC = 0x0003`, everything else
unchanged; then one tick of the PPU (R391, R393). That a step is one whole pass of the driver is the model's choice (log 1). -/
def Obligations.FirstStepLoadsStackPointer : Prop :=
  ∀ (image : List Byte) (memInit : Nat → Byte), image.take 3 = [0x31#8, 0xFE#8, 0xFF#8] →
    let s := State.resetWith image memInit
    cpuStep s = .next { s with sp := 0xFFFE#16, pc := 0x0003#16 } ∧
    step s = .next { s with sp := 0xFFFE#16, pc := 0x0003#16, ppu := { s.ppu with ticks := 1 } }

/-! ### Invariants, isolation, whole-machine rules -/

/-- Two memories in canonical form that read the same everywhere are the same data. -/
def Obligations.MemoriesEqualWhenReadsEqual : Prop :=
  ∀ m n : Memory, m.wf = true → n.wf = true → (∀ a : Word, m.read a.toNat = n.read a.toNat) → m = n

/-- Every step keeps the invariant: canonical memory, the low nibble of `F` zero, the PPU where the table of R309 puts it. -/
def Obligations.StepKeepsInvariant : Prop :=
  ∀ s t : State, s.Inv → step s = .next t → t.Inv

/-- The low nibble of `F` is zero at reset, and every instruction and every tick keeps it zero (R25). -/
def Obligations.FlagLowNibbleStaysZero : Prop :=
  (∀ image memInit, (State.resetWith image memInit).f &&& 0x0F#8 = 0) ∧
  (∀ (i : Instr) (s : State), s.f &&& 0x0F#8 = 0 → ∃ t, exec i s = .next t ∧ t.f &&& 0x0F#8 = 0) ∧
  (∀ s : State, s.f &&& 0x0F#8 = 0 → (ppuTick s).f &&& 0x0F#8 = 0)

/-- In a state that meets the invariant a step counts no FIFO capacity violation, leaves at most 15 pixels in the FIFO and
the tile column at most 21 (R309 (b), (d), (e)). -/
def Obligations.FifoNeverViolated : Prop :=
  ∀ s t : State, s.Inv → step s = .next t →
    t.ppu.violations = s.ppu.violations ∧ t.ppu.fifo.length ≤ 15 ∧ t.ppu.tileIndex ≤ 21

/-- The agents share the memory and nothing else: an instruction leaves all PPU state as it was, and a tick leaves every CPU
register and the run status as they were (R2). -/
def Obligations.AgentsShareOnlyMemory : Prop :=
  (∀ (i : Instr) (s : State), ∃ t, exec i s = .next t ∧ t.ppu = s.ppu) ∧
  (∀ s : State, { ppuTick s with mem := s.mem, ppu := s.ppu } = s)

/-- What a tick does depends on no memory byte outside the tile data 0x8000 to 0x8FFF and the tile map 0x9800 to 0x9A35, and its
control (state, counters, fetcher phase, FIFO size) on no memory byte at all (R73, R309). -/
def Obligations.PpuReadsVideoMemoryOnly : Prop :=
  (∀ (s : State) (m : Memory), s.ppu.onSchedule →
    (∀ a, (0x8000 ≤ a ∧ a ≤ 0x8FFF) ∨ (0x9800 ≤ a ∧ a ≤ 0x9A35) → m.read a = s.mem.read a) →
    (ppuTick { s with mem := m }).ppu = (ppuTick s).ppu) ∧
  (∀ (s : State) (m : Memory),
    let u := (ppuTick { s with mem := m }).ppu
    let v := (ppuTick s).ppu
    u.mode = v.mode ∧ u.ticks = v.ticks ∧ u.ly = v.ly ∧ u.x = v.x ∧ u.fstate = v.fstate ∧ u.fticks = v.fticks ∧
      u.tileIndex = v.tileIndex ∧ u.fifo.length = v.fifo.length ∧ u.violations = v.violations)

/-- Every instruction that is neither a control transfer nor an unhandled byte ends with `PC = pc0 + length` (R27). -/
def Obligations.InstructionAdvancesPC : Prop :=
  ∀ (i : Instr) (s : State), (encode i).headD 0 ∉ transferBytes → (encode i).headD 0 ∉ unhandledBytes →
    ∃ t, exec i s = .next t ∧ t.pc = s.pc + BitVec.ofNat 16 (encode i).length

/-- Pairs are views of their two halves: a write to a pair is a write to both halves and to nothing else, and a read shows
the latest write to either half (R22). -/
def Obligations.RegisterPairsAreViews : Prop :=
  ∀ (s : State) (v : Word) (x : Byte),
    s.setPair .bc v = { s with b := high v, c := low v } ∧
    s.setPair .de v = { s with d := high v, e := low v } ∧
    s.setPair .hl v = { s with h := high v, l := low v } ∧
    (s.setPair .bc v).pair .bc = v ∧ (s.setPair .de v).pair .de = v ∧ (s.setPair .hl v).pair .hl = v ∧
    (s.setReg .b x).pair .bc = x ++ s.c ∧ (s.setReg .c x).pair .bc = s.b ++ x ∧
    (s.setReg .d x).pair .de = x ++ s.e ∧ (s.setReg .e x).pair .de = s.d ++ x ∧
    (s.setReg .h x).pair .hl = x ++ s.l ∧ (s.setReg .l x).pair .hl = s.h ++ x ∧
    ∀ r q, (s.setReg r x).reg q = if q = r then x else s.reg q

/-! ### 8-bit loads and stores -/

/-- `LD r,r'`, `LD r,d8`, `LD r,(HL)` (R120, R121, R122). -/
def Obligations.LoadRegister : Prop :=
  (∀ dst src s, encodedAs [byte (0x40 + 8 * regCode dst + regCode src)] (ldRegReg dst src) ∧
    exec (ldRegReg dst src) s = .next (State.setReg { s with pc := s.pc + 1 } dst (s.reg src))) ∧
  (∀ dst v s, encodedAs [byte (0x06 + 8 * regCode dst), v] (ldRegImm dst v) ∧
    exec (ldRegImm dst v) s = .next (State.setReg { s with pc := s.pc + 2 } dst v)) ∧
  (∀ dst s, encodedAs [byte (0x46 + 8 * regCode dst)] (ldRegAtHL dst) ∧
    exec (ldRegAtHL dst) s = .next (State.setReg { s with pc := s.pc + 1 } dst (s.readByte (s.h ++ s.l))))

/-- `LD A,(BC)`, `LD A,(DE)`, `LD A,(a16)`, `LDH A,(a8)`, `LD A,(C)` (R125, R126, R129, R131, R133). -/
def Obligations.LoadAccumulator : Prop :=
  ∀ (s : State) (a16 : Word) (a8 : Byte),
    (encodedAs [0x0A#8] .ld_a_atBC ∧
      exec .ld_a_atBC s = .next { s with a := s.readByte (s.b ++ s.c), pc := s.pc + 1 }) ∧
    (encodedAs [0x1A#8] .ld_a_atDE ∧
      exec .ld_a_atDE s = .next { s with a := s.readByte (s.d ++ s.e), pc := s.pc + 1 }) ∧
    (encodedAs [0xFA#8, low a16, high a16] (.ld_a_at16 a16) ∧
      exec (.ld_a_at16 a16) s = .next { s with a := s.readByte a16, pc := s.pc + 3 }) ∧
    (encodedAs [0xF0#8, a8] (.ldh_a_at8 a8) ∧
      exec (.ldh_a_at8 a8) s = .next { s with a := s.readByte (0xFF#8 ++ a8), pc := s.pc + 2 }) ∧
    (encodedAs [0xF2#8] .ld_a_atC ∧
      exec .ld_a_atC s = .next { s with a := s.readByte (0xFF#8 ++ s.c), pc := s.pc + 1 })

/-- The 8-bit stores that leave their address as it was (R123, R124, R127, R128, R130, R132, R134). -/
def Obligations.StoreByte : Prop :=
  ∀ (s : State) (src : Reg) (v : Byte) (a16 : Word) (a8 : Byte),
    (encodedAs [byte (0x70 + regCode src)] (ldAtHLReg src) ∧
      stores (ldAtHLReg src) s (s.h ++ s.l) (s.reg src) { s with pc := s.pc + 1 }) ∧
    (encodedAs [0x36#8, v] (.ld_atHL_d8 v) ∧ stores (.ld_atHL_d8 v) s (s.h ++ s.l) v { s with pc := s.pc + 2 }) ∧
    (encodedAs [0x02#8] .ld_atBC_a ∧ stores .ld_atBC_a s (s.b ++ s.c) s.a { s with pc := s.pc + 1 }) ∧
    (encodedAs [0x12#8] .ld_atDE_a ∧ stores .ld_atDE_a s (s.d ++ s.e) s.a { s with pc := s.pc + 1 }) ∧
    (encodedAs [0xEA#8, low a16, high a16] (.ld_at16_a a16) ∧
      stores (.ld_at16_a a16) s a16 s.a { s with pc := s.pc + 3 }) ∧
    (encodedAs [0xE0#8, a8] (.ldh_at8_a a8) ∧
      stores (.ldh_at8_a a8) s (0xFF#8 ++ a8) s.a { s with pc := s.pc + 2 }) ∧
    (encodedAs [0xE2#8] .ld_atC_a ∧ stores .ld_atC_a s (0xFF#8 ++ s.c) s.a { s with pc := s.pc + 1 })

/-- The transfers through `HL` use the old `HL` as the address and then change it by one (R135 to R138). That the
address is the old `HL` is the spec's own decision D22 (log 21). -/
def Obligations.TransferThenModifyHL : Prop :=
  ∀ s : State,
    let addr : Word := s.h ++ s.l
    (encodedAs [0x22#8] .ld_atHLI_a ∧
      stores .ld_atHLI_a s addr s.a { s with h := high (addr + 1), l := low (addr + 1), pc := s.pc + 1 }) ∧
    (encodedAs [0x32#8] .ld_atHLD_a ∧
      stores .ld_atHLD_a s addr s.a { s with h := high (addr - 1), l := low (addr - 1), pc := s.pc + 1 }) ∧
    (encodedAs [0x2A#8] .ld_a_atHLI ∧
      exec .ld_a_atHLI s =
        .next { s with a := s.readByte addr, h := high (addr + 1), l := low (addr + 1), pc := s.pc + 1 }) ∧
    (encodedAs [0x3A#8] .ld_a_atHLD ∧
      exec .ld_a_atHLD s =
        .next { s with a := s.readByte addr, h := high (addr - 1), l := low (addr - 1), pc := s.pc + 1 })

/-! ### 16-bit loads and the stack -/

/-- `LD rr,d16` and `LD SP,HL` (R160, R161). -/
def Obligations.LoadWord : Prop :=
  ∀ (s : State) (v : Word),
    (∀ p, encodedAs [byte (0x01 + 16 * pairCode p), low v, high v] (ldPairImm p v)) ∧
    exec (ldPairImm .bc v) s = .next { s with b := high v, c := low v, pc := s.pc + 3 } ∧
    exec (ldPairImm .de v) s = .next { s with d := high v, e := low v, pc := s.pc + 3 } ∧
    exec (ldPairImm .hl v) s = .next { s with h := high v, l := low v, pc := s.pc + 3 } ∧
    exec (ldPairImm .sp v) s = .next { s with sp := v, pc := s.pc + 3 } ∧
    encodedAs [0xF9#8] .ld_sp_hl ∧
    exec .ld_sp_hl s = .next { s with sp := s.h ++ s.l, pc := s.pc + 1 }

/-- `LD (a16),SP`: low byte at `a16`, high byte at `a16+1` modulo 65536 (R162). -/
def Obligations.StoreStackPointer : Prop :=
  ∀ (s : State) (a16 : Word), encodedAs [0x08#8, low a16, high a16] (.ld_at16_sp a16) ∧
    ∃ t, exec (.ld_at16_sp a16) s = .next t ∧
      (∀ x, t.readByte x = if x = a16 then low s.sp else if x = a16 + 1 then high s.sp else s.readByte x) ∧
      { t with mem := s.mem } = { s with pc := s.pc + 3 }

/-- `LD HL,SP+e8` and `ADD SP,e8`: the sum is signed, the carries are those of the unsigned low bytes (R165, R223). -/
def Obligations.StackPointerPlusDisplacement : Prop :=
  ∀ (s : State) (e8 : Byte),
    let sum : Word := BitVec.ofInt 16 (s.sp.toNat + e8.toInt)
    let flags := flagByte false false (s.sp.toNat % 16 + e8.toNat % 16 > 0xF) (s.sp.toNat % 256 + e8.toNat > 0xFF)
    (encodedAs [0xF8#8, e8] (.ld_hl_sp_e8 e8) ∧
      exec (.ld_hl_sp_e8 e8) s = .next { s with h := high sum, l := low sum, f := flags, pc := s.pc + 2 }) ∧
    (encodedAs [0xE8#8, e8] (.add_sp_e8 e8) ∧
      exec (.add_sp_e8 e8) s = .next { s with sp := sum, f := flags, pc := s.pc + 2 })

/-- `PUSH rr` and `POP rr`; `POP AF` discards the low nibble of the flag byte (R163, R164, R166). -/
def Obligations.PushAndPop : Prop :=
  ∀ s : State,
    let lo := s.readByte s.sp
    let hi := s.readByte (s.sp + 1)
    (∀ p, encodedAs [byte (0xC5 + 16 * stackPairCode p)] (pushPair p)) ∧
    (∀ p, encodedAs [byte (0xC1 + 16 * stackPairCode p)] (popPair p)) ∧
    pushes (pushPair .bc) s (s.b ++ s.c) { s with sp := s.sp - 2, pc := s.pc + 1 } ∧
    pushes (pushPair .de) s (s.d ++ s.e) { s with sp := s.sp - 2, pc := s.pc + 1 } ∧
    pushes (pushPair .hl) s (s.h ++ s.l) { s with sp := s.sp - 2, pc := s.pc + 1 } ∧
    pushes (pushPair .af) s (s.a ++ s.f) { s with sp := s.sp - 2, pc := s.pc + 1 } ∧
    exec (popPair .bc) s = .next { s with b := hi, c := lo, sp := s.sp + 2, pc := s.pc + 1 } ∧
    exec (popPair .de) s = .next { s with d := hi, e := lo, sp := s.sp + 2, pc := s.pc + 1 } ∧
    exec (popPair .hl) s = .next { s with h := hi, l := lo, sp := s.sp + 2, pc := s.pc + 1 } ∧
    exec (popPair .af) s =
      .next { s with a := hi, f := flagByte (lo.getLsbD 7) (lo.getLsbD 6) (lo.getLsbD 5) (lo.getLsbD 4), sp := s.sp + 2, pc := s.pc + 1 }

/-- `PUSH rr` followed by `POP rr` of the same pair restores every register; for `AF` because the low nibble of `F` is zero. -/
def Obligations.PushThenPopRestores : Prop :=
  ∀ (s : State) (p : StackPair), s.f &&& 0x0F#8 = 0 →
    ∃ t u, exec (pushPair p) s = .next t ∧ exec (popPair p) t = .next u ∧ { u with mem := s.mem } = { s with pc := s.pc + 2 }

/-! ### 8-bit arithmetic and logic -/

/-- `ADD A,x` and `ADC A,x` in every operand form (R181, R182). -/
def Obligations.AddWithAndWithoutCarry : Prop :=
  (aluForms .add fun i bytes v => encodedAs bytes i ∧ ∀ s : State,
    let sum := s.a.toNat + (v s).toNat
    exec i s = .next { s with
      a := byte sum
      f := flagByte (sum % 256 = 0) false (s.a.toNat % 16 + (v s).toNat % 16 > 0xF) (sum > 0xFF)
      pc := s.pc + BitVec.ofNat 16 bytes.length }) ∧
  (aluForms .adc fun i bytes v => encodedAs bytes i ∧ ∀ s : State,
    let c := (s.f.getLsbD 4).toNat
    let sum := s.a.toNat + (v s).toNat + c
    exec i s = .next { s with
      a := byte sum
      f := flagByte (sum % 256 = 0) false (s.a.toNat % 16 + (v s).toNat % 16 + c > 0xF) (sum > 0xFF)
      pc := s.pc + BitVec.ofNat 16 bytes.length })

/-- `SUB x`, `SBC A,x` and `CP x` in every operand form (R183, R184, R188). That `SUB` writes fH and fC is the spec's own
decision D9 (log 21). -/
def Obligations.SubtractAndCompare : Prop :=
  (aluForms .sub fun i bytes v => encodedAs bytes i ∧ ∀ s : State,
    exec i s = .next { s with
      a := BitVec.ofInt 8 (s.a.toNat - (v s).toNat)
      f := flagByte (s.a = v s) true (s.a.toNat % 16 < (v s).toNat % 16) (s.a.toNat < (v s).toNat)
      pc := s.pc + BitVec.ofNat 16 bytes.length }) ∧
  (aluForms .sbc fun i bytes v => encodedAs bytes i ∧ ∀ s : State,
    let c := (s.f.getLsbD 4).toNat
    exec i s = .next { s with
      a := BitVec.ofInt 8 (s.a.toNat - (v s).toNat - c)
      f := flagByte (s.a.toNat = ((v s).toNat + c) % 256) true (s.a.toNat % 16 < (v s).toNat % 16 + c) (s.a.toNat < (v s).toNat + c)
      pc := s.pc + BitVec.ofNat 16 bytes.length }) ∧
  (aluForms .cp fun i bytes v => encodedAs bytes i ∧ ∀ s : State,
    exec i s = .next { s with
      f := flagByte (s.a = v s) true (s.a.toNat % 16 < (v s).toNat % 16) (s.a.toNat < (v s).toNat)
      pc := s.pc + BitVec.ofNat 16 bytes.length })

/-- `CP x` sets the flags exactly as `SUB x` does and leaves `A` unchanged; everything else they do is the same. That `SUB`
writes fH and fC is the spec's own decision D9 (log 21). -/
def Obligations.CompareIsSubtractionWithoutResult : Prop :=
  ∀ s : State,
    (∀ o, ∃ t, exec (aluOperand .sub o) s = .next t ∧ exec (aluOperand .cp o) s = .next { t with a := s.a }) ∧
    (∀ v, ∃ t, exec (aluImm .sub v) s = .next t ∧ exec (aluImm .cp v) s = .next { t with a := s.a })

/-- `AND x`, `XOR x` and `OR x` in every operand form, bit by bit (R185, R186, R187). -/
def Obligations.LogicOperations : Prop :=
  (aluForms .and fun i bytes v => encodedAs bytes i ∧ ∀ s : State, ∃ res : Byte,
    (∀ k < 8, res.getLsbD k = (s.a.getLsbD k && (v s).getLsbD k)) ∧
    exec i s = .next { s with a := res, f := flagByte (res = 0) false true false, pc := s.pc + BitVec.ofNat 16 bytes.length }) ∧
  (aluForms .xor fun i bytes v => encodedAs bytes i ∧ ∀ s : State, ∃ res : Byte,
    (∀ k < 8, res.getLsbD k = xor (s.a.getLsbD k) ((v s).getLsbD k)) ∧
    exec i s = .next { s with a := res, f := flagByte (res = 0) false false false, pc := s.pc + BitVec.ofNat 16 bytes.length }) ∧
  (aluForms .or fun i bytes v => encodedAs bytes i ∧ ∀ s : State, ∃ res : Byte,
    (∀ k < 8, res.getLsbD k = (s.a.getLsbD k || (v s).getLsbD k)) ∧
    exec i s = .next { s with a := res, f := flagByte (res = 0) false false false, pc := s.pc + BitVec.ofNat 16 bytes.length })

/-- `INC r` and `DEC r`: fC keeps its value (R189, R190). -/
def Obligations.IncrementDecrementRegister : Prop :=
  ∀ (s : State) (r : Reg),
    let old := (s.reg r).toNat
    (encodedAs [byte (0x04 + 8 * regCode r)] (incOperand (.reg r)) ∧
      exec (incOperand (.reg r)) s = .next (State.setReg { s with
        f := flagByte (old = 0xFF) false (old % 16 = 0xF) (s.f.getLsbD 4), pc := s.pc + 1 } r (byte (old + 1)))) ∧
    (encodedAs [byte (0x05 + 8 * regCode r)] (decOperand (.reg r)) ∧
      exec (decOperand (.reg r)) s = .next (State.setReg { s with
        f := flagByte (old = 1) true (old % 16 = 0) (s.f.getLsbD 4), pc := s.pc + 1 } r (byte (old + 255))))

/-- `INC (HL)` and `DEC (HL)`: one byte of memory changes, `HL` and fC keep their values (R191, R192). -/
def Obligations.IncrementDecrementMemory : Prop :=
  ∀ s : State,
    let addr : Word := s.h ++ s.l
    let old := (s.readByte addr).toNat
    (encodedAs [0x34#8] .inc_atHL ∧
      stores .inc_atHL s addr (byte (old + 1)) { s with
        f := flagByte (old = 0xFF) false (old % 16 = 0xF) (s.f.getLsbD 4), pc := s.pc + 1 }) ∧
    (encodedAs [0x35#8] .dec_atHL ∧
      stores .dec_atHL s addr (byte (old + 255)) { s with
        f := flagByte (old = 1) true (old % 16 = 0) (s.f.getLsbD 4), pc := s.pc + 1 })

/-- Incrementing then decrementing restores the operand, register or memory byte, and leaves the carry flag unchanged. -/
def Obligations.IncrementThenDecrementRestores : Prop :=
  ∀ (s : State) (o : Operand8), ∃ t u, exec (incOperand o) s = .next t ∧ exec (decOperand o) t = .next u ∧
    u.operand o = s.operand o ∧ u.f.getLsbD 4 = s.f.getLsbD 4 ∧ (∀ x, u.readByte x = s.readByte x) ∧
    ∀ r, u.reg r = s.reg r

/-- `DAA` (R193), with the adjustment as a number. -/
def Obligations.DecimalAdjust : Prop :=
  encodedAs [0x27#8] .daa ∧ ∀ s : State,
    let acc := s.a.toNat
    let n := s.f.getLsbD 6
    let lowAdj : Bool := s.f.getLsbD 5 || (!n && acc % 16 > 9)
    let highAdj : Bool := s.f.getLsbD 4 || (!n && acc > 0x99)
    let adj := 6 * lowAdj.toNat + 0x60 * highAdj.toNat
    let res : Byte := if n then BitVec.ofInt 8 ((acc : Int) - adj) else byte (acc + adj)
    exec .daa s = .next { s with a := res, f := flagByte (res = 0) n false highAdj, pc := s.pc + 1 }

/-- Decimal arithmetic: after `ADD A,d8` (or `SUB d8`) of two-digit packed decimal numbers, `DAA` leaves the decimal sum (or
difference) in `A` and the decimal carry (or borrow) in fC. The flags of `SUB` are the spec's own decision D9 (log 21). -/
def Obligations.DecimalArithmetic : Prop :=
  ∀ (s : State) (x y : Nat), x < 100 → y < 100 → s.a = bcd x →
    (∃ t u, exec (.add_a_d8 (bcd y)) s = .next t ∧ exec .daa t = .next u ∧
      u.a = bcd ((x + y) % 100) ∧ u.f.getLsbD 4 = decide (100 ≤ x + y)) ∧
    (∃ t u, exec (.sub_d8 (bcd y)) s = .next t ∧ exec .daa t = .next u ∧
      u.a = bcd ((x + 100 - y) % 100) ∧ u.f.getLsbD 4 = decide (x < y))

/-- `CPL`, `SCF` and `CCF` (R194, R195, R196). -/
def Obligations.ComplementAndCarryFlag : Prop :=
  ∀ s : State,
    let z := s.f.getLsbD 7
    let c := s.f.getLsbD 4
    (encodedAs [0x2F#8] .cpl ∧
      exec .cpl s = .next { s with a := byte (255 - s.a.toNat), f := flagByte z true true c, pc := s.pc + 1 }) ∧
    (encodedAs [0x37#8] .scf ∧ exec .scf s = .next { s with f := flagByte z false false true, pc := s.pc + 1 }) ∧
    (encodedAs [0x3F#8] .ccf ∧ exec .ccf s = .next { s with f := flagByte z false false (!c), pc := s.pc + 1 })

/-! ### 16-bit arithmetic -/

/-- `ADD HL,rr`: carries out of bits 11 and 15, fZ unchanged (R220). -/
def Obligations.AddPairToHL : Prop :=
  ∀ (s : State) (p : Pair),
    let v : Word := match p with
      | .bc => s.b ++ s.c
      | .de => s.d ++ s.e
      | .hl => s.h ++ s.l
      | .sp => s.sp
    let hl : Word := s.h ++ s.l
    let sum := hl.toNat + v.toNat
    encodedAs [byte (0x09 + 16 * pairCode p)] (addHLPair p) ∧
    exec (addHLPair p) s = .next { s with
      h := byte (sum / 256)
      l := byte sum
      f := flagByte (s.f.getLsbD 7) false (hl.toNat % 4096 + v.toNat % 4096 > 0xFFF) (sum > 0xFFFF)
      pc := s.pc + 1 }

/-- `INC rr` and `DEC rr`: modulo 65536, no flag changes (R221, R222). -/
def Obligations.IncrementDecrementPair : Prop :=
  ∀ s : State,
    let bc : Word := s.b ++ s.c
    let de : Word := s.d ++ s.e
    let hl : Word := s.h ++ s.l
    (∀ p, encodedAs [byte (0x03 + 16 * pairCode p)] (incPair p) ∧ encodedAs [byte (0x0B + 16 * pairCode p)] (decPair p)) ∧
    exec (incPair .bc) s = .next { s with b := high (bc + 1), c := low (bc + 1), pc := s.pc + 1 } ∧
    exec (incPair .de) s = .next { s with d := high (de + 1), e := low (de + 1), pc := s.pc + 1 } ∧
    exec (incPair .hl) s = .next { s with h := high (hl + 1), l := low (hl + 1), pc := s.pc + 1 } ∧
    exec (incPair .sp) s = .next { s with sp := s.sp + 1, pc := s.pc + 1 } ∧
    exec (decPair .bc) s = .next { s with b := high (bc - 1), c := low (bc - 1), pc := s.pc + 1 } ∧
    exec (decPair .de) s = .next { s with d := high (de - 1), e := low (de - 1), pc := s.pc + 1 } ∧
    exec (decPair .hl) s = .next { s with h := high (hl - 1), l := low (hl - 1), pc := s.pc + 1 } ∧
    exec (decPair .sp) s = .next { s with sp := s.sp - 1, pc := s.pc + 1 }

/-! ### Control transfer -/

/-- `NOP`, `JP a16`, `JP HL` (R230, R231, R233). -/
def Obligations.NopAndAbsoluteJumps : Prop :=
  ∀ (s : State) (a16 : Word),
    (encodedAs [0x00#8] .nop ∧ exec .nop s = .next { s with pc := s.pc + 1 }) ∧
    (encodedAs [0xC3#8, low a16, high a16] (.jp_a16 a16) ∧ exec (.jp_a16 a16) s = .next { s with pc := a16 }) ∧
    (encodedAs [0xE9#8] .jp_hl ∧ exec .jp_hl s = .next { s with pc := s.h ++ s.l })

/-- `JP cc,a16`, `JR e8`, `JR cc,e8`: the displacement is signed and counted from the end of the instruction (R232, R234,
R235, R241). -/
def Obligations.ConditionalAndRelativeJumps : Prop :=
  ∀ (s : State) (cc : Cond) (a16 : Word) (e8 : Byte),
    let target : Word := BitVec.ofInt 16 ((s.pc.toNat : Int) + 2 + e8.toInt)
    (encodedAs [byte (0xC2 + 8 * condCode cc), low a16, high a16] (jpCond cc a16) ∧
      exec (jpCond cc a16) s = .next { s with pc := if condHolds cc s.f then a16 else s.pc + 3 }) ∧
    (encodedAs [0x18#8, e8] (.jr_e8 e8) ∧ exec (.jr_e8 e8) s = .next { s with pc := target }) ∧
    (encodedAs [byte (0x20 + 8 * condCode cc), e8] (jrCond cc e8) ∧
      exec (jrCond cc e8) s = .next { s with pc := if condHolds cc s.f then target else s.pc + 2 })

/-- `CALL a16`, `CALL cc,a16`, `RST n`: the return address is that of the next instruction, high byte at `SP-1`, low byte at
`SP-2`; a call that is not taken changes `PC` only (R236, R237, R240). The return address `pc0 + 3` (`pc0 + 1` for
`RST`) is the spec's own decision D4 (log 21). -/
def Obligations.CallAndRestart : Prop :=
  ∀ (s : State) (cc : Cond) (a16 : Word) (y : Fin 8),
    (encodedAs [0xCD#8, low a16, high a16] (.call_a16 a16) ∧
      pushes (.call_a16 a16) s (s.pc + 3) { s with sp := s.sp - 2, pc := a16 }) ∧
    (encodedAs [byte (0xC4 + 8 * condCode cc), low a16, high a16] (callCond cc a16) ∧
      (condHolds cc s.f = true → pushes (callCond cc a16) s (s.pc + 3) { s with sp := s.sp - 2, pc := a16 }) ∧
      (condHolds cc s.f = false → exec (callCond cc a16) s = .next { s with pc := s.pc + 3 })) ∧
    (encodedAs [byte (0xC7 + 8 * y.val)] (rst y) ∧
      pushes (rst y) s (s.pc + 1) { s with sp := s.sp - 2, pc := BitVec.ofNat 16 (8 * y.val) })

/-- `RET` and `RET cc`: `PC` from the two bytes at `SP`, low byte first; a return that is not taken changes `PC` only (R238,
R239). -/
def Obligations.ReturnFromSubroutine : Prop :=
  ∀ (s : State) (cc : Cond),
    let target : Word := s.readByte (s.sp + 1) ++ s.readByte s.sp
    (encodedAs [0xC9#8] .ret ∧ exec .ret s = .next { s with sp := s.sp + 2, pc := target }) ∧
    (encodedAs [byte (0xC0 + 8 * condCode cc)] (retCond cc) ∧
      exec (retCond cc) s = .next (if condHolds cc s.f then { s with sp := s.sp + 2, pc := target } else { s with pc := s.pc + 1 }))

/-- `RET` undoes `CALL a16` and `RST n`: it comes back to the instruction after them with `SP` and every register as before.
The return address is the spec's own decision D4 (log 21). -/
def Obligations.ReturnUndoesCall : Prop :=
  ∀ (s : State) (a16 : Word) (y : Fin 8),
    (∃ t u, exec (.call_a16 a16) s = .next t ∧ exec .ret t = .next u ∧ { u with mem := s.mem } = { s with pc := s.pc + 3 }) ∧
    (∃ t u, exec (rst y) s = .next t ∧ exec .ret t = .next u ∧ { u with mem := s.mem } = { s with pc := s.pc + 1 })

/-! ### Rotates, shifts, bits, the prefix -/

/-- `RLCA`, `RLA`, `RRCA`, `RRA`: one byte long, and fZ is always 0 (R260 to R263). -/
def Obligations.AccumulatorRotates : Prop :=
  ∀ s : State,
    let r (op : RotOp) := rotValue op s.a.toNat (s.f.getLsbD 4).toNat
    (encodedAs [0x07#8] .rlca ∧ exec .rlca s =
      .next { s with a := byte (r .rlc).1, f := flagByte false false false ((r .rlc).2 = 1), pc := s.pc + 1 }) ∧
    (encodedAs [0x17#8] .rla ∧ exec .rla s =
      .next { s with a := byte (r .rl).1, f := flagByte false false false ((r .rl).2 = 1), pc := s.pc + 1 }) ∧
    (encodedAs [0x0F#8] .rrca ∧ exec .rrca s =
      .next { s with a := byte (r .rrc).1, f := flagByte false false false ((r .rrc).2 = 1), pc := s.pc + 1 }) ∧
    (encodedAs [0x1F#8] .rra ∧ exec .rra s =
      .next { s with a := byte (r .rr).1, f := flagByte false false false ((r .rr).2 = 1), pc := s.pc + 1 })

/-- The eight rotates and shifts of the extended table, on a register and on the byte at `HL` (R265 to R272). -/
def Obligations.RotatesAndShifts : Prop :=
  ∀ (s : State) (op : RotOp),
    let c := (s.f.getLsbD 4).toNat
    (∀ r : Reg,
      let res := rotValue op (s.reg r).toNat c
      encodedAs [0xCB#8, byte (8 * rotCode op + regCode r)] (rotOperand op (.reg r)) ∧
      exec (rotOperand op (.reg r)) s = .next (State.setReg { s with
        f := flagByte (res.1 % 256 = 0) false false (res.2 = 1), pc := s.pc + 2 } r (byte res.1))) ∧
    (
      let res := rotValue op (s.readByte (s.h ++ s.l)).toNat c
      encodedAs [0xCB#8, byte (8 * rotCode op + 6)] (rotOperand op .atHL) ∧
      stores (rotOperand op .atHL) s (s.h ++ s.l) (byte res.1) { s with
        f := flagByte (res.1 % 256 = 0) false false (res.2 = 1), pc := s.pc + 2 })

/-- `BIT b,x`: only flags and `PC` change (R273). -/
def Obligations.BitTest : Prop :=
  ∀ (s : State) (b : Fin 8) (o : Operand8),
    let v : Byte := match o with
      | .reg r => s.reg r
      | .atHL => s.readByte (s.h ++ s.l)
    encodedAs [0xCB#8, byte (0x40 + 8 * b.val + operandCode o)] (bitOperand b o) ∧
    exec (bitOperand b o) s =
      .next { s with f := flagByte (v.toNat / 2 ^ b.val % 2 = 0) false true (s.f.getLsbD 4), pc := s.pc + 2 }

/-- `RES b,x` and `SET b,x`: one bit of the operand is cleared or set, no flag changes (R274, R275). -/
def Obligations.BitResetAndSet : Prop :=
  ∀ (s : State) (b : Fin 8),
    (∀ o, encodedAs [0xCB#8, byte (0x80 + 8 * b.val + operandCode o)] (resOperand b o) ∧
      encodedAs [0xCB#8, byte (0xC0 + 8 * b.val + operandCode o)] (setOperand b o)) ∧
    (∀ r : Reg, ∃ cleared set : Byte,
      (∀ k < 8, cleared.getLsbD k = if k = b.val then false else (s.reg r).getLsbD k) ∧
      (∀ k < 8, set.getLsbD k = if k = b.val then true else (s.reg r).getLsbD k) ∧
      exec (resOperand b (.reg r)) s = .next (State.setReg { s with pc := s.pc + 2 } r cleared) ∧
      exec (setOperand b (.reg r)) s = .next (State.setReg { s with pc := s.pc + 2 } r set)) ∧
    (∃ cleared set : Byte,
      (∀ k < 8, cleared.getLsbD k = if k = b.val then false else (s.readByte (s.h ++ s.l)).getLsbD k) ∧
      (∀ k < 8, set.getLsbD k = if k = b.val then true else (s.readByte (s.h ++ s.l)).getLsbD k) ∧
      stores (resOperand b .atHL) s (s.h ++ s.l) cleared { s with pc := s.pc + 2 } ∧
      stores (setOperand b .atHL) s (s.h ++ s.l) set { s with pc := s.pc + 2 })

/-- Prefix dispatch (the row `PREFIX` is the term `prefixCB`, log 6): the prefix with a second byte does what the extended-table
instruction of that byte does, every second byte is supported, and the pair is two bytes long (R264). -/
def Obligations.PrefixDispatch : Prop :=
  ∀ (op2 : Byte) (s : State),
    (∀ rest, decode (0xCB#8 :: op2 :: rest) = .ok (decodeExtended op2, rest)) ∧
    decodeExtended op2 = decodeExtendedByFields op2 ∧
    exec (.prefixCB op2) s = exec (decodeExtended op2) s ∧
    ∃ t, exec (.prefixCB op2) s = .next t ∧ t.pc = s.pc + 2 ∧ t.status = s.status

/-! ### The PPU pipeline -/

/-- A tick in `ObjectSearch` counts; the tick that brings the counter to 40 sets up the line (R300, R301, R330). The order inside
the tick and the reset of `fticks` are the spec's decisions D17 and D12 (log 20), the map base is D10 (log 19). -/
def Obligations.ObjectSearchTick : Prop :=
  ∀ s : State, s.ppu.mode = .objectSearch →
    (s.ppu.ticks + 1 ≠ 40 → ppuTick s = { s with ppu := { s.ppu with ticks := s.ppu.ticks + 1 } }) ∧
    (s.ppu.ticks + 1 = 40 → ppuTick s = { s with ppu := { s.ppu with
      ticks := 40
      x := 0
      tileIndex := 0
      mapAddr := BitVec.ofNat 16 (0x9800 + s.ppu.ly / 8 * 32)
      tileLine := s.ppu.ly % 8
      fstate := .readTileIndex
      fticks := 0
      fifo := []
      mode := .pixelTransfer } })

/-- A tick in `PixelTransfer`: the fetcher advances first; then, if more than 8 pixels wait, the oldest goes to the sink, and
the 160th ends the line (R302). -/
def Obligations.PixelTransferTick : Prop :=
  ∀ s : State, s.ppu.mode = .pixelTransfer →
    let u := Ppu.fetcherTick { s.ppu with ticks := s.ppu.ticks + 1 } s.mem
    (u.fifo.length ≤ 8 → ppuTick s = { s with ppu := u }) ∧
    (∀ p rest, u.fifo = p :: rest → 8 < u.fifo.length →
      (s.ppu.x ≠ 159 → ppuTick s = { s with ppu := { u with
        fifo := rest, x := s.ppu.x + 1, sink := s.ppu.sink ++ [.pixel p] } }) ∧
      (s.ppu.x = 159 → ppuTick s = { s with ppu := { u with
        fifo := rest, x := 160, sink := s.ppu.sink ++ [.pixel p, .endOfLine], mode := .hBlank } }))

/-- Eight fetcher ticks from a fresh `ReadTileIndex` with room in the FIFO fetch one tile: the identifier from the map, the two
bit-planes of the tile line, and the eight pixels pushed leftmost first; with more than 8 pixels waiting the last step stalls
(R331 to R336). -/
def Obligations.EightTicksFetchOneTile : Prop :=
  ∀ (s : State) (u : Ppu), u.fstate = .readTileIndex → u.fticks = 0 → u.fifo.length ≤ 16 → u.tileLine < 8 →
    let tick (v : Ppu) := v.fetcherTick s.mem
    let id := s.readByte (u.mapAddr + BitVec.ofNat 16 u.tileIndex)
    let px := tilePixel s id u.tileLine
    let seven := tick (tick (tick (tick (tick (tick (tick u))))))
    seven = { u with
      fticks := 1, fstate := .pushToFifo, tileId := id, pix := ⟨px 0, px 1, px 2, px 3, px 4, px 5, px 6, px 7⟩ } ∧
    (u.fifo.length ≤ 8 → tick seven = { seven with
      fticks := 0, fstate := .readTileIndex, tileIndex := u.tileIndex + 1, fifo := u.fifo ++ (List.range 8).map px }) ∧
    (8 < u.fifo.length → tick seven = { seven with fticks := 0 })

/-- The FIFO: pushes append while there is room for 16, the rest are lost and counted; a pop returns the oldest; a pop from
the empty FIFO returns nothing and is counted (R337, R338, R339). What a violation does is decision D25; that the counter is kept
is the model's choice (log 14). -/
def Obligations.FifoOperations : Prop :=
  ∀ (u : Ppu) (ps : List Pixel), u.fifo.length ≤ 16 →
    u.fifoPushAll ps = { u with
      fifo := (u.fifo ++ ps).take 16, violations := u.violations + (u.fifo.length + ps.length - 16) } ∧
    u.fifoSize = u.fifo.length ∧
    (∀ p rest, u.fifo = p :: rest → u.fifoPop = (some p, { u with fifo := rest })) ∧
    (u.fifo = [] → u.fifoPop = (none, { u with violations := u.violations + 1 })) ∧
    u.fifoClear = { u with fifo := [] }

/-- The blank states count until tick 456 and there end the line: the new line index goes to `mem[0xFF44]` and to no other
byte; line 144 starts `VBlank` with one end-of-frame signal, and line 153 is followed by line 0 (R300, R303, R304, R305; the length
of line 153, the 0 written, the one end-of-frame call and the counter over the whole line are the spec's decisions D13, D23, D27,
D19, log 20). -/
def Obligations.BlankTicks : Prop :=
  ∀ s : State, (s.ppu.mode = .hBlank ∨ s.ppu.mode = .vBlank) →
    (s.ppu.ticks + 1 ≠ 456 → ppuTick s = { s with ppu := { s.ppu with ticks := s.ppu.ticks + 1 } }) ∧
    (s.ppu.ticks + 1 = 456 →
      let last := s.ppu.mode = .vBlank ∧ s.ppu.ly = 153
      let ly := if last then 0 else s.ppu.ly + 1
      (∀ x, (ppuTick s).readByte x = if x = 0xFF44#16 then byte ly else s.readByte x) ∧
      { ppuTick s with mem := s.mem } = { s with ppu := { s.ppu with
        ticks := 0
        ly := ly
        mode := if s.ppu.mode = .hBlank then (if ly = 144 then .vBlank else .objectSearch) else (if last then .objectSearch else .vBlank)
        sink := s.ppu.sink ++ (if s.ppu.mode = .hBlank ∧ ly = 144 then [.endOfFrame] else []) } })

/-- One visible line: from its first tick, 456 ticks send the sink the 160 pixels that tile map and tile data hold for this
scanline, then the end of the line (after line 143 the end of the frame too), and leave the machine at the start of the next
line with the current-line register updated; no other byte of memory and no CPU register changes. -/
def Obligations.LineRendersItsPixels : Prop :=
  ∀ s : State, s.ppu.mode = .objectSearch → s.ppu.ticks = 0 → s.ppu.ly < 144 →
    let t := ppuTicks 456 s
    t.ppu.sink = s.ppu.sink ++ lineCalls s s.ppu.ly ++ (if s.ppu.ly = 143 then [.endOfFrame] else []) ∧
    t.ppu.mode = (if s.ppu.ly = 143 then .vBlank else .objectSearch) ∧
    t.ppu.ticks = 0 ∧ t.ppu.ly = s.ppu.ly + 1 ∧ t.ppu.x = 160 ∧ t.ppu.violations = s.ppu.violations ∧
    (∀ x, t.readByte x = if x = 0xFF44#16 then byte (s.ppu.ly + 1) else s.readByte x) ∧
    { t with mem := s.mem, ppu := s.ppu } = s

/-- One frame: 70224 = 154 * 456 ticks from the start of line 0 render the 144 lines in order, send one end-of-frame signal, and
come back to the start of line 0 with 0 in the current-line register. -/
def Obligations.FrameRendersAndRepeats : Prop :=
  ∀ s : State, s.ppu.mode = .objectSearch → s.ppu.ticks = 0 → s.ppu.ly = 0 →
    let t := ppuTicks 70224 s
    t.ppu.sink = s.ppu.sink ++ (List.range 144).flatMap (lineCalls s) ++ [.endOfFrame] ∧
    t.ppu.mode = .objectSearch ∧ t.ppu.ticks = 0 ∧ t.ppu.ly = 0 ∧ t.ppu.violations = s.ppu.violations ∧
    (∀ x, t.readByte x = if x = 0xFF44#16 then 0 else s.readByte x)
end

