-- ==== Sys2Proof/Laws/Decode.lean ====
section
/-! SUPPORT. The cases of the decoder: a list of bytes by the length that its first byte determines. -/

namespace Sys2Proof

theorem decode_one {op : Byte} (rest : List Byte) (h : lengthOf op = 1) :
    decode (op :: rest) = .ok (decodeOp op 0#8 0#8, rest) := by
  simp [decode, h]

theorem decode_two {op : Byte} (b1 : Byte) (rest : List Byte) (h : lengthOf op = 2) :
    decode (op :: b1 :: rest) = .ok (decodeOp op b1 0#8, rest) := by
  simp [decode, h]

theorem decode_three {op : Byte} (b1 b2 : Byte) (rest : List Byte) (h : lengthOf op = 3) :
    decode (op :: b1 :: b2 :: rest) = .ok (decodeOp op b1 b2, rest) := by
  simp [decode, h]

/-- Every instruction is one, two or three bytes long (R91). -/
theorem lengthOf_cases (op : Byte) : lengthOf op = 1 ∨ lengthOf op = 2 ∨ lengthOf op = 3 := by
  unfold lengthOf
  split
  · simp
  · split <;> simp

end Sys2Proof
end

