-- ==== Sys2Proof/Laws/State.lean ====
section
/-! SUPPORT. One lemma per field per update of the state, so that no later proof unfolds a record update. -/

namespace Sys2Proof.Machine

/-! ### `setBC` -/

@[simp] theorem State.setBC_a (s : State) (v : Word) : (s.setBC v).a = s.a := rfl
@[simp] theorem State.setBC_b (s : State) (v : Word) : (s.setBC v).b = hiByte v := rfl
@[simp] theorem State.setBC_c (s : State) (v : Word) : (s.setBC v).c = loByte v := rfl
@[simp] theorem State.setBC_d (s : State) (v : Word) : (s.setBC v).d = s.d := rfl
@[simp] theorem State.setBC_e (s : State) (v : Word) : (s.setBC v).e = s.e := rfl
@[simp] theorem State.setBC_h (s : State) (v : Word) : (s.setBC v).h = s.h := rfl
@[simp] theorem State.setBC_l (s : State) (v : Word) : (s.setBC v).l = s.l := rfl
@[simp] theorem State.setBC_f (s : State) (v : Word) : (s.setBC v).f = s.f := rfl
@[simp] theorem State.setBC_pc (s : State) (v : Word) : (s.setBC v).pc = s.pc := rfl
@[simp] theorem State.setBC_sp (s : State) (v : Word) : (s.setBC v).sp = s.sp := rfl
@[simp] theorem State.setBC_mem (s : State) (v : Word) : (s.setBC v).mem = s.mem := rfl
@[simp] theorem State.setBC_ppu (s : State) (v : Word) : (s.setBC v).ppu = s.ppu := rfl
@[simp] theorem State.setBC_status (s : State) (v : Word) : (s.setBC v).status = s.status := rfl

/-! ### `setDE` -/

@[simp] theorem State.setDE_a (s : State) (v : Word) : (s.setDE v).a = s.a := rfl
@[simp] theorem State.setDE_b (s : State) (v : Word) : (s.setDE v).b = s.b := rfl
@[simp] theorem State.setDE_c (s : State) (v : Word) : (s.setDE v).c = s.c := rfl
@[simp] theorem State.setDE_d (s : State) (v : Word) : (s.setDE v).d = hiByte v := rfl
@[simp] theorem State.setDE_e (s : State) (v : Word) : (s.setDE v).e = loByte v := rfl
@[simp] theorem State.setDE_h (s : State) (v : Word) : (s.setDE v).h = s.h := rfl
@[simp] theorem State.setDE_l (s : State) (v : Word) : (s.setDE v).l = s.l := rfl
@[simp] theorem State.setDE_f (s : State) (v : Word) : (s.setDE v).f = s.f := rfl
@[simp] theorem State.setDE_pc (s : State) (v : Word) : (s.setDE v).pc = s.pc := rfl
@[simp] theorem State.setDE_sp (s : State) (v : Word) : (s.setDE v).sp = s.sp := rfl
@[simp] theorem State.setDE_mem (s : State) (v : Word) : (s.setDE v).mem = s.mem := rfl
@[simp] theorem State.setDE_ppu (s : State) (v : Word) : (s.setDE v).ppu = s.ppu := rfl
@[simp] theorem State.setDE_status (s : State) (v : Word) : (s.setDE v).status = s.status := rfl

/-! ### `setHL` -/

@[simp] theorem State.setHL_a (s : State) (v : Word) : (s.setHL v).a = s.a := rfl
@[simp] theorem State.setHL_b (s : State) (v : Word) : (s.setHL v).b = s.b := rfl
@[simp] theorem State.setHL_c (s : State) (v : Word) : (s.setHL v).c = s.c := rfl
@[simp] theorem State.setHL_d (s : State) (v : Word) : (s.setHL v).d = s.d := rfl
@[simp] theorem State.setHL_e (s : State) (v : Word) : (s.setHL v).e = s.e := rfl
@[simp] theorem State.setHL_h (s : State) (v : Word) : (s.setHL v).h = hiByte v := rfl
@[simp] theorem State.setHL_l (s : State) (v : Word) : (s.setHL v).l = loByte v := rfl
@[simp] theorem State.setHL_f (s : State) (v : Word) : (s.setHL v).f = s.f := rfl
@[simp] theorem State.setHL_pc (s : State) (v : Word) : (s.setHL v).pc = s.pc := rfl
@[simp] theorem State.setHL_sp (s : State) (v : Word) : (s.setHL v).sp = s.sp := rfl
@[simp] theorem State.setHL_mem (s : State) (v : Word) : (s.setHL v).mem = s.mem := rfl
@[simp] theorem State.setHL_ppu (s : State) (v : Word) : (s.setHL v).ppu = s.ppu := rfl
@[simp] theorem State.setHL_status (s : State) (v : Word) : (s.setHL v).status = s.status := rfl

/-! ### `setAF` -/

@[simp] theorem State.setAF_a (s : State) (v : Word) : (s.setAF v).a = hiByte v := rfl
@[simp] theorem State.setAF_b (s : State) (v : Word) : (s.setAF v).b = s.b := rfl
@[simp] theorem State.setAF_c (s : State) (v : Word) : (s.setAF v).c = s.c := rfl
@[simp] theorem State.setAF_d (s : State) (v : Word) : (s.setAF v).d = s.d := rfl
@[simp] theorem State.setAF_e (s : State) (v : Word) : (s.setAF v).e = s.e := rfl
@[simp] theorem State.setAF_h (s : State) (v : Word) : (s.setAF v).h = s.h := rfl
@[simp] theorem State.setAF_l (s : State) (v : Word) : (s.setAF v).l = s.l := rfl
@[simp] theorem State.setAF_f (s : State) (v : Word) : (s.setAF v).f = loByte v &&& 0xF0#8 := rfl
@[simp] theorem State.setAF_pc (s : State) (v : Word) : (s.setAF v).pc = s.pc := rfl
@[simp] theorem State.setAF_sp (s : State) (v : Word) : (s.setAF v).sp = s.sp := rfl
@[simp] theorem State.setAF_mem (s : State) (v : Word) : (s.setAF v).mem = s.mem := rfl
@[simp] theorem State.setAF_ppu (s : State) (v : Word) : (s.setAF v).ppu = s.ppu := rfl
@[simp] theorem State.setAF_status (s : State) (v : Word) : (s.setAF v).status = s.status := rfl

/-! ### `advance` -/

@[simp] theorem State.advance_a (s : State) (n : Nat) : (s.advance n).a = s.a := rfl
@[simp] theorem State.advance_b (s : State) (n : Nat) : (s.advance n).b = s.b := rfl
@[simp] theorem State.advance_c (s : State) (n : Nat) : (s.advance n).c = s.c := rfl
@[simp] theorem State.advance_d (s : State) (n : Nat) : (s.advance n).d = s.d := rfl
@[simp] theorem State.advance_e (s : State) (n : Nat) : (s.advance n).e = s.e := rfl
@[simp] theorem State.advance_h (s : State) (n : Nat) : (s.advance n).h = s.h := rfl
@[simp] theorem State.advance_l (s : State) (n : Nat) : (s.advance n).l = s.l := rfl
@[simp] theorem State.advance_f (s : State) (n : Nat) : (s.advance n).f = s.f := rfl
@[simp] theorem State.advance_pc (s : State) (n : Nat) : (s.advance n).pc = s.pc + BitVec.ofNat 16 n := rfl
@[simp] theorem State.advance_sp (s : State) (n : Nat) : (s.advance n).sp = s.sp := rfl
@[simp] theorem State.advance_mem (s : State) (n : Nat) : (s.advance n).mem = s.mem := rfl
@[simp] theorem State.advance_ppu (s : State) (n : Nat) : (s.advance n).ppu = s.ppu := rfl
@[simp] theorem State.advance_status (s : State) (n : Nat) : (s.advance n).status = s.status := rfl

/-! ### `jump` -/

@[simp] theorem State.jump_a (s : State) (v : Word) : (s.jump v).a = s.a := rfl
@[simp] theorem State.jump_b (s : State) (v : Word) : (s.jump v).b = s.b := rfl
@[simp] theorem State.jump_c (s : State) (v : Word) : (s.jump v).c = s.c := rfl
@[simp] theorem State.jump_d (s : State) (v : Word) : (s.jump v).d = s.d := rfl
@[simp] theorem State.jump_e (s : State) (v : Word) : (s.jump v).e = s.e := rfl
@[simp] theorem State.jump_h (s : State) (v : Word) : (s.jump v).h = s.h := rfl
@[simp] theorem State.jump_l (s : State) (v : Word) : (s.jump v).l = s.l := rfl
@[simp] theorem State.jump_f (s : State) (v : Word) : (s.jump v).f = s.f := rfl
@[simp] theorem State.jump_pc (s : State) (v : Word) : (s.jump v).pc = v := rfl
@[simp] theorem State.jump_sp (s : State) (v : Word) : (s.jump v).sp = s.sp := rfl
@[simp] theorem State.jump_mem (s : State) (v : Word) : (s.jump v).mem = s.mem := rfl
@[simp] theorem State.jump_ppu (s : State) (v : Word) : (s.jump v).ppu = s.ppu := rfl
@[simp] theorem State.jump_status (s : State) (v : Word) : (s.jump v).status = s.status := rfl

/-! ### `writeByte` -/

@[simp] theorem State.writeByte_a (s : State) (x : Word) (v : Byte) : (s.writeByte x v).a = s.a := rfl
@[simp] theorem State.writeByte_b (s : State) (x : Word) (v : Byte) : (s.writeByte x v).b = s.b := rfl
@[simp] theorem State.writeByte_c (s : State) (x : Word) (v : Byte) : (s.writeByte x v).c = s.c := rfl
@[simp] theorem State.writeByte_d (s : State) (x : Word) (v : Byte) : (s.writeByte x v).d = s.d := rfl
@[simp] theorem State.writeByte_e (s : State) (x : Word) (v : Byte) : (s.writeByte x v).e = s.e := rfl
@[simp] theorem State.writeByte_h (s : State) (x : Word) (v : Byte) : (s.writeByte x v).h = s.h := rfl
@[simp] theorem State.writeByte_l (s : State) (x : Word) (v : Byte) : (s.writeByte x v).l = s.l := rfl
@[simp] theorem State.writeByte_f (s : State) (x : Word) (v : Byte) : (s.writeByte x v).f = s.f := rfl
@[simp] theorem State.writeByte_pc (s : State) (x : Word) (v : Byte) : (s.writeByte x v).pc = s.pc := rfl
@[simp] theorem State.writeByte_sp (s : State) (x : Word) (v : Byte) : (s.writeByte x v).sp = s.sp := rfl
@[simp] theorem State.writeByte_mem (s : State) (x : Word) (v : Byte) : (s.writeByte x v).mem = s.mem.write x.toNat v := rfl
@[simp] theorem State.writeByte_ppu (s : State) (x : Word) (v : Byte) : (s.writeByte x v).ppu = s.ppu := rfl
@[simp] theorem State.writeByte_status (s : State) (x : Word) (v : Byte) : (s.writeByte x v).status = s.status := rfl

/-! ### `push16` -/

@[simp] theorem State.push16_a (s : State) (v : Word) : (s.push16 v).a = s.a := rfl
@[simp] theorem State.push16_b (s : State) (v : Word) : (s.push16 v).b = s.b := rfl
@[simp] theorem State.push16_c (s : State) (v : Word) : (s.push16 v).c = s.c := rfl
@[simp] theorem State.push16_d (s : State) (v : Word) : (s.push16 v).d = s.d := rfl
@[simp] theorem State.push16_e (s : State) (v : Word) : (s.push16 v).e = s.e := rfl
@[simp] theorem State.push16_h (s : State) (v : Word) : (s.push16 v).h = s.h := rfl
@[simp] theorem State.push16_l (s : State) (v : Word) : (s.push16 v).l = s.l := rfl
@[simp] theorem State.push16_f (s : State) (v : Word) : (s.push16 v).f = s.f := rfl
@[simp] theorem State.push16_pc (s : State) (v : Word) : (s.push16 v).pc = s.pc := rfl
@[simp] theorem State.push16_sp (s : State) (v : Word) : (s.push16 v).sp = s.sp - 2 := rfl
@[simp] theorem State.push16_mem (s : State) (v : Word) : (s.push16 v).mem = (s.mem.write (s.sp - 1).toNat (hiByte v)).write (s.sp - 2).toNat (loByte v) := rfl
@[simp] theorem State.push16_ppu (s : State) (v : Word) : (s.push16 v).ppu = s.ppu := rfl
@[simp] theorem State.push16_status (s : State) (v : Word) : (s.push16 v).status = s.status := rfl

/-! ### `dropTop` -/

@[simp] theorem State.dropTop_a (s : State) : (s.dropTop).a = s.a := rfl
@[simp] theorem State.dropTop_b (s : State) : (s.dropTop).b = s.b := rfl
@[simp] theorem State.dropTop_c (s : State) : (s.dropTop).c = s.c := rfl
@[simp] theorem State.dropTop_d (s : State) : (s.dropTop).d = s.d := rfl
@[simp] theorem State.dropTop_e (s : State) : (s.dropTop).e = s.e := rfl
@[simp] theorem State.dropTop_h (s : State) : (s.dropTop).h = s.h := rfl
@[simp] theorem State.dropTop_l (s : State) : (s.dropTop).l = s.l := rfl
@[simp] theorem State.dropTop_f (s : State) : (s.dropTop).f = s.f := rfl
@[simp] theorem State.dropTop_pc (s : State) : (s.dropTop).pc = s.pc := rfl
@[simp] theorem State.dropTop_sp (s : State) : (s.dropTop).sp = s.sp + 2 := rfl
@[simp] theorem State.dropTop_mem (s : State) : (s.dropTop).mem = s.mem := rfl
@[simp] theorem State.dropTop_ppu (s : State) : (s.dropTop).ppu = s.ppu := rfl
@[simp] theorem State.dropTop_status (s : State) : (s.dropTop).status = s.status := rfl

/-! ### `setFlags` -/

@[simp] theorem State.setFlags_a (s : State) (z n h c : Bool) : (s.setFlags z n h c).a = s.a := rfl
@[simp] theorem State.setFlags_b (s : State) (z n h c : Bool) : (s.setFlags z n h c).b = s.b := rfl
@[simp] theorem State.setFlags_c (s : State) (z n h c : Bool) : (s.setFlags z n h c).c = s.c := rfl
@[simp] theorem State.setFlags_d (s : State) (z n h c : Bool) : (s.setFlags z n h c).d = s.d := rfl
@[simp] theorem State.setFlags_e (s : State) (z n h c : Bool) : (s.setFlags z n h c).e = s.e := rfl
@[simp] theorem State.setFlags_h (s : State) (z n h c : Bool) : (s.setFlags z n h c).h = s.h := rfl
@[simp] theorem State.setFlags_l (s : State) (z n h c : Bool) : (s.setFlags z n h c).l = s.l := rfl
@[simp] theorem State.setFlags_f (s : State) (z n h c : Bool) : (s.setFlags z n h c).f = packFlags z n h c := rfl
@[simp] theorem State.setFlags_pc (s : State) (z n h c : Bool) : (s.setFlags z n h c).pc = s.pc := rfl
@[simp] theorem State.setFlags_sp (s : State) (z n h c : Bool) : (s.setFlags z n h c).sp = s.sp := rfl
@[simp] theorem State.setFlags_mem (s : State) (z n h c : Bool) : (s.setFlags z n h c).mem = s.mem := rfl
@[simp] theorem State.setFlags_ppu (s : State) (z n h c : Bool) : (s.setFlags z n h c).ppu = s.ppu := rfl
@[simp] theorem State.setFlags_status (s : State) (z n h c : Bool) : (s.setFlags z n h c).status = s.status := rfl

/-! ### `writeLy` -/

@[simp] theorem State.writeLy_a (s : State) (n : Nat) : (s.writeLy n).a = s.a := rfl
@[simp] theorem State.writeLy_b (s : State) (n : Nat) : (s.writeLy n).b = s.b := rfl
@[simp] theorem State.writeLy_c (s : State) (n : Nat) : (s.writeLy n).c = s.c := rfl
@[simp] theorem State.writeLy_d (s : State) (n : Nat) : (s.writeLy n).d = s.d := rfl
@[simp] theorem State.writeLy_e (s : State) (n : Nat) : (s.writeLy n).e = s.e := rfl
@[simp] theorem State.writeLy_h (s : State) (n : Nat) : (s.writeLy n).h = s.h := rfl
@[simp] theorem State.writeLy_l (s : State) (n : Nat) : (s.writeLy n).l = s.l := rfl
@[simp] theorem State.writeLy_f (s : State) (n : Nat) : (s.writeLy n).f = s.f := rfl
@[simp] theorem State.writeLy_pc (s : State) (n : Nat) : (s.writeLy n).pc = s.pc := rfl
@[simp] theorem State.writeLy_sp (s : State) (n : Nat) : (s.writeLy n).sp = s.sp := rfl
@[simp] theorem State.writeLy_mem (s : State) (n : Nat) : (s.writeLy n).mem = s.mem.write Config.lyAddr.toNat (BitVec.ofNat 8 n) := rfl
@[simp] theorem State.writeLy_ppu (s : State) (n : Nat) : (s.writeLy n).ppu = s.ppu := rfl
@[simp] theorem State.writeLy_status (s : State) (n : Nat) : (s.writeLy n).status = s.status := rfl

/-! ### `setReg` -/

@[simp] theorem State.setReg_f (s : State) (r : Reg) (v : Byte) : (s.setReg r v).f = s.f := by cases r <;> rfl
@[simp] theorem State.setReg_pc (s : State) (r : Reg) (v : Byte) : (s.setReg r v).pc = s.pc := by cases r <;> rfl
@[simp] theorem State.setReg_sp (s : State) (r : Reg) (v : Byte) : (s.setReg r v).sp = s.sp := by cases r <;> rfl
@[simp] theorem State.setReg_mem (s : State) (r : Reg) (v : Byte) : (s.setReg r v).mem = s.mem := by cases r <;> rfl
@[simp] theorem State.setReg_ppu (s : State) (r : Reg) (v : Byte) : (s.setReg r v).ppu = s.ppu := by cases r <;> rfl
@[simp] theorem State.setReg_status (s : State) (r : Reg) (v : Byte) : (s.setReg r v).status = s.status := by cases r <;> rfl
@[simp] theorem State.reg_setReg (s : State) (r q : Reg) (v : Byte) : (s.setReg r v).reg q = if q = r then v else s.reg q := by
  cases r <;> cases q <;> rfl

/-! ### `setPair` and `setStackPair` -/

@[simp] theorem State.setPair_a (s : State) (p : Pair) (v : Word) : (s.setPair p v).a = s.a := by cases p <;> rfl
@[simp] theorem State.setPair_f (s : State) (p : Pair) (v : Word) : (s.setPair p v).f = s.f := by cases p <;> rfl
@[simp] theorem State.setPair_pc (s : State) (p : Pair) (v : Word) : (s.setPair p v).pc = s.pc := by cases p <;> rfl
@[simp] theorem State.setPair_mem (s : State) (p : Pair) (v : Word) : (s.setPair p v).mem = s.mem := by cases p <;> rfl
@[simp] theorem State.setPair_ppu (s : State) (p : Pair) (v : Word) : (s.setPair p v).ppu = s.ppu := by cases p <;> rfl
@[simp] theorem State.setPair_status (s : State) (p : Pair) (v : Word) : (s.setPair p v).status = s.status := by cases p <;> rfl
@[simp] theorem State.setStackPair_pc (s : State) (p : StackPair) (v : Word) : (s.setStackPair p v).pc = s.pc := by
  cases p <;> rfl
@[simp] theorem State.setStackPair_sp (s : State) (p : StackPair) (v : Word) : (s.setStackPair p v).sp = s.sp := by
  cases p <;> rfl
@[simp] theorem State.setStackPair_mem (s : State) (p : StackPair) (v : Word) : (s.setStackPair p v).mem = s.mem := by
  cases p <;> rfl
@[simp] theorem State.setStackPair_ppu (s : State) (p : StackPair) (v : Word) : (s.setStackPair p v).ppu = s.ppu := by
  cases p <;> rfl
@[simp] theorem State.setStackPair_status (s : State) (p : StackPair) (v : Word) : (s.setStackPair p v).status = s.status := by
  cases p <;> rfl

/-! ### `setOperand` -/

@[simp] theorem State.setOperand_f (s : State) (x : Operand8) (v : Byte) : (s.setOperand x v).f = s.f := by
  rcases x with r | _
  · cases r <;> rfl
  · rfl
@[simp] theorem State.setOperand_pc (s : State) (x : Operand8) (v : Byte) : (s.setOperand x v).pc = s.pc := by
  rcases x with r | _
  · cases r <;> rfl
  · rfl
@[simp] theorem State.setOperand_sp (s : State) (x : Operand8) (v : Byte) : (s.setOperand x v).sp = s.sp := by
  rcases x with r | _
  · cases r <;> rfl
  · rfl
@[simp] theorem State.setOperand_ppu (s : State) (x : Operand8) (v : Byte) : (s.setOperand x v).ppu = s.ppu := by
  rcases x with r | _
  · cases r <;> rfl
  · rfl
@[simp] theorem State.setOperand_status (s : State) (x : Operand8) (v : Byte) : (s.setOperand x v).status = s.status := by
  rcases x with r | _
  · cases r <;> rfl
  · rfl

/-! ### Registers and conditions of an updated state -/

@[simp] theorem State.readByte_setBC (s : State) (v : Word) (x : Word) : (s.setBC v).readByte x = s.readByte x := rfl
@[simp] theorem State.readByte_setDE (s : State) (v : Word) (x : Word) : (s.setDE v).readByte x = s.readByte x := rfl
@[simp] theorem State.readByte_setHL (s : State) (v : Word) (x : Word) : (s.setHL v).readByte x = s.readByte x := rfl
@[simp] theorem State.readByte_setAF (s : State) (v : Word) (x : Word) : (s.setAF v).readByte x = s.readByte x := rfl
@[simp] theorem State.reg_advance (s : State) (n : Nat) (r : Reg) : (s.advance n).reg r = s.reg r := by cases r <;> rfl
@[simp] theorem State.readByte_advance (s : State) (n : Nat) (x : Word) : (s.advance n).readByte x = s.readByte x := rfl
@[simp] theorem State.reg_jump (s : State) (v : Word) (r : Reg) : (s.jump v).reg r = s.reg r := by cases r <;> rfl
@[simp] theorem State.readByte_jump (s : State) (v : Word) (x : Word) : (s.jump v).readByte x = s.readByte x := rfl
@[simp] theorem State.reg_writeByte (s : State) (x : Word) (v : Byte) (r : Reg) : (s.writeByte x v).reg r = s.reg r := by cases r <;> rfl
@[simp] theorem State.reg_push16 (s : State) (v : Word) (r : Reg) : (s.push16 v).reg r = s.reg r := by cases r <;> rfl
@[simp] theorem State.reg_dropTop (s : State) (r : Reg) : (s.dropTop).reg r = s.reg r := by cases r <;> rfl
@[simp] theorem State.readByte_dropTop (s : State) (x : Word) : (s.dropTop).readByte x = s.readByte x := rfl
@[simp] theorem State.reg_setFlags (s : State) (z n h c : Bool) (r : Reg) : (s.setFlags z n h c).reg r = s.reg r := by cases r <;> rfl
@[simp] theorem State.readByte_setFlags (s : State) (z n h c : Bool) (x : Word) : (s.setFlags z n h c).readByte x = s.readByte x := rfl
@[simp] theorem State.readByte_setReg (s : State) (r : Reg) (v : Byte) (x : Word) : (s.setReg r v).readByte x = s.readByte x := by
  cases r <;> rfl
@[simp] theorem State.readByte_setPair (s : State) (p : Pair) (v x : Word) : (s.setPair p v).readByte x = s.readByte x := by
  cases p <;> rfl
@[simp] theorem State.readByte_setStackPair (s : State) (p : StackPair) (v x : Word) : (s.setStackPair p v).readByte x = s.readByte x := by
  cases p <;> rfl

end Sys2Proof.Machine
end

