-- ==== Sys2Proof/Laws/Flags.lean ====
section
/-! SUPPORT. The flag byte: its four bits and its low nibble (spec R24, R25). -/

namespace Sys2Proof.Machine

@[simp] theorem packFlags_bit7 (z n h c : Bool) : (packFlags z n h c).getLsbD 7 = z := by
  cases z <;> cases n <;> cases h <;> cases c <;> rfl

@[simp] theorem packFlags_bit6 (z n h c : Bool) : (packFlags z n h c).getLsbD 6 = n := by
  cases z <;> cases n <;> cases h <;> cases c <;> rfl

@[simp] theorem packFlags_bit5 (z n h c : Bool) : (packFlags z n h c).getLsbD 5 = h := by
  cases z <;> cases n <;> cases h <;> cases c <;> rfl

@[simp] theorem packFlags_bit4 (z n h c : Bool) : (packFlags z n h c).getLsbD 4 = c := by
  cases z <;> cases n <;> cases h <;> cases c <;> rfl

/-- Every flag byte the model builds has a zero low nibble. -/
@[simp] theorem packFlags_low (z n h c : Bool) : packFlags z n h c &&& 0x0F#8 = 0#8 := by
  cases z <;> cases n <;> cases h <;> cases c <;> rfl

/-- The byte that `POP AF` puts into `F` has a zero low nibble (R25). -/
@[simp] theorem highNibble_low (v : Byte) : v &&& 0xF0#8 &&& 0x0F#8 = 0#8 := by
  rw [BitVec.and_assoc]
  simp

@[simp] theorem State.fZ_setFlags (s : State) (z n h c : Bool) : (s.setFlags z n h c).fZ = z := packFlags_bit7 z n h c

@[simp] theorem State.fN_setFlags (s : State) (z n h c : Bool) : (s.setFlags z n h c).fN = n := packFlags_bit6 z n h c

@[simp] theorem State.fH_setFlags (s : State) (z n h c : Bool) : (s.setFlags z n h c).fH = h := packFlags_bit5 z n h c

@[simp] theorem State.fC_setFlags (s : State) (z n h c : Bool) : (s.setFlags z n h c).fC = c := packFlags_bit4 z n h c

/-! ### The new `F` of every flag computation has a zero low nibble -/

@[simp] theorem addFlags_low (acc v : Byte) (c : Bool) : (addFlags acc v c).2 &&& 0x0F#8 = 0#8 := packFlags_low ..

@[simp] theorem subFlags_low (acc v : Byte) (c : Bool) : (subFlags acc v c).2 &&& 0x0F#8 = 0#8 := packFlags_low ..

@[simp] theorem aluFlags_low (op : AluOp) (acc v : Byte) (c : Bool) : (aluFlags op acc v c).2 &&& 0x0F#8 = 0#8 := by
  cases op <;> exact packFlags_low ..

@[simp] theorem incFlags_low (v : Byte) (c : Bool) : (incFlags v c).2 &&& 0x0F#8 = 0#8 := packFlags_low ..

@[simp] theorem decFlags_low (v : Byte) (c : Bool) : (decFlags v c).2 &&& 0x0F#8 = 0#8 := packFlags_low ..

@[simp] theorem daaFlags_low (acc : Byte) (n h c : Bool) : (daaFlags acc n h c).2 &&& 0x0F#8 = 0#8 := packFlags_low ..

@[simp] theorem addWordFlags_low (x v : Word) (z : Bool) : (addWordFlags x v z).2 &&& 0x0F#8 = 0#8 := packFlags_low ..

@[simp] theorem spPlusFlags_low (sp : Word) (e8 : Byte) : (spPlusFlags sp e8).2 &&& 0x0F#8 = 0#8 := packFlags_low ..

@[simp] theorem rotFlags_low (op : RotOp) (v : Byte) (c : Bool) : (rotFlags op v c).2 &&& 0x0F#8 = 0#8 := packFlags_low ..

@[simp] theorem rotAccFlags_low (op : RotOp) (v : Byte) (c : Bool) : (rotAccFlags op v c).2 &&& 0x0F#8 = 0#8 :=
  packFlags_low ..

@[simp] theorem bitFlags_low (b : Fin 8) (v : Byte) (c : Bool) : bitFlags b v c &&& 0x0F#8 = 0#8 := packFlags_low ..

/-! ### The flags that an instruction keeps -/

@[simp] theorem incFlags_carry (v : Byte) (c : Bool) : (incFlags v c).2.getLsbD 4 = c := packFlags_bit4 ..

@[simp] theorem decFlags_carry (v : Byte) (c : Bool) : (decFlags v c).2.getLsbD 4 = c := packFlags_bit4 ..

@[simp] theorem bitFlags_carry (b : Fin 8) (v : Byte) (c : Bool) : (bitFlags b v c).getLsbD 4 = c := packFlags_bit4 ..

@[simp] theorem addWordFlags_zero (x v : Word) (z : Bool) : (addWordFlags x v z).2.getLsbD 7 = z := packFlags_bit7 ..

@[simp] theorem rotAccFlags_zero (op : RotOp) (v : Byte) (c : Bool) : (rotAccFlags op v c).2.getLsbD 7 = false :=
  packFlags_bit7 ..

end Sys2Proof.Machine
end

