-- ==== Sys2Proof/Laws/Memory.lean ====
section
/-! SUPPORT. Memory: a read shows the latest write, a write changes one byte, and every operation keeps the canonical form. -/

namespace Sys2Proof.Machine

/-! ### Reads -/

theorem Memory.read_erase (m : Memory) (a x : Nat) :
    Memory.read (Memory.erase m a) x = if x = a then Config.unlistedByte a else Memory.read m x := by
  induction m with
  | nil => simp +contextual [Memory.erase, Memory.read]
  | cons c rest ih =>
    by_cases hc : c.1 = a
    · simp only [Memory.erase, hc, if_true, ih, Memory.read]
      grind
    · simp only [Memory.erase, hc, if_false, Memory.read, ih]
      grind

theorem Memory.read_insert (m : Memory) (a x : Nat) (v : Byte) (h : ∀ c ∈ m, c.1 ≠ a) :
    Memory.read (Memory.insert m a v) x = if x = a then v else Memory.read m x := by
  induction m with
  | nil => simp [Memory.insert, Memory.read, eq_comm]
  | cons c rest ih =>
    have hr := ih fun d hd => h d (List.mem_cons_of_mem _ hd)
    have hc := h c List.mem_cons_self
    by_cases hlt : a < c.1
    · simp [Memory.insert, hlt, Memory.read, eq_comm]
    · simp only [Memory.insert, hlt, if_false, Memory.read, hr]
      grind

theorem Memory.erase_key (m : Memory) (a : Nat) : ∀ c ∈ Memory.erase m a, c.1 ≠ a := by
  induction m with
  | nil => simp [Memory.erase]
  | cons c rest ih =>
    by_cases hc : c.1 = a <;> simp [Memory.erase, hc] <;> simpa using ih

/-- A read after a write: the written byte at its address, the old byte elsewhere. -/
@[simp] theorem Memory.read_write (m : Memory) (a x : Nat) (v : Byte) :
    Memory.read (Memory.write m a v) x = if x = a then v else Memory.read m x := by
  unfold Memory.write
  split
  · next h => simp [Memory.read_erase, h]
  · rw [Memory.read_insert _ _ _ _ (Memory.erase_key m a), Memory.read_erase]
    split <;> rfl

/-- `MemRead` after `MemWrite` (R60, R69). -/
@[simp] theorem State.readByte_writeByte (s : State) (a x : Word) (v : Byte) :
    (s.writeByte a v).readByte x = if x = a then v else s.readByte x := by
  simp [State.readByte, State.writeByte, BitVec.toNat_inj]

/-! ### Canonical form -/

/-- The canonical form, entry by entry. -/
theorem Memory.wf_cons (c : Host.Cell) (rest : Memory) :
    Memory.wf (c :: rest) = true ↔
      c.1 < 65536 ∧ c.2 ≠ Config.unlistedByte c.1 ∧ Memory.below c.1 rest = true ∧ Memory.wf rest = true := by
  simp [Memory.wf, and_assoc]

theorem Memory.below_of_wf {a : Nat} {m : Memory} (hw : Memory.wf m = true) (hb : Memory.below a m = true) :
    ∀ c ∈ m, a < c.1 := by
  induction m generalizing a with
  | nil => simp
  | cons c rest ih =>
    obtain ⟨-, -, hc, hr⟩ := (Memory.wf_cons c rest).1 hw
    have hac : a < c.1 := by simpa [Memory.below] using hb
    intro d hd
    rcases List.mem_cons.1 hd with rfl | hd
    · exact hac
    · exact Nat.lt_trans hac (ih hr hc d hd)

theorem Memory.below_intro {a : Nat} {m : Memory} (h : ∀ c ∈ m, a < c.1) : Memory.below a m = true := by
  cases m with
  | nil => rfl
  | cons c rest => simpa [Memory.below] using h c List.mem_cons_self

theorem Memory.erase_subset (m : Memory) (a : Nat) : ∀ c ∈ Memory.erase m a, c ∈ m := by
  induction m with
  | nil => simp [Memory.erase]
  | cons c rest ih =>
    intro d hd
    by_cases hc : c.1 = a
    · simp only [Memory.erase, hc, if_true] at hd
      exact List.mem_cons_of_mem _ (ih d hd)
    · simp only [Memory.erase, hc, if_false, List.mem_cons] at hd
      rcases hd with rfl | hd
      · exact List.mem_cons_self
      · exact List.mem_cons_of_mem _ (ih d hd)

theorem Memory.wf_erase (m : Memory) (a : Nat) (h : Memory.wf m = true) : Memory.wf (Memory.erase m a) = true := by
  induction m with
  | nil => rfl
  | cons c rest ih =>
    obtain ⟨h1, h2, h3, h4⟩ := (Memory.wf_cons c rest).1 h
    by_cases hc : c.1 = a
    · simpa [Memory.erase, hc] using ih h4
    · simp only [Memory.erase, hc, if_false]
      exact (Memory.wf_cons _ _).2 ⟨h1, h2,
        Memory.below_intro fun d hd => Memory.below_of_wf h4 h3 d (Memory.erase_subset rest a d hd), ih h4⟩

theorem Memory.mem_insert (m : Memory) (a : Nat) (v : Byte) : ∀ c ∈ Memory.insert m a v, c = (a, v) ∨ c ∈ m := by
  induction m with
  | nil => simp [Memory.insert]
  | cons c rest ih =>
    intro d hd
    by_cases hlt : a < c.1
    · simp only [Memory.insert, hlt, if_true, List.mem_cons] at hd
      simpa using hd
    · simp only [Memory.insert, hlt, if_false, List.mem_cons] at hd
      rcases hd with rfl | hd
      · simp
      · rcases ih d hd with h | h <;> simp [h]

theorem Memory.wf_insert (m : Memory) (a : Nat) (v : Byte) (h : Memory.wf m = true) (ha : a < 65536)
    (hv : v ≠ Config.unlistedByte a) (hk : ∀ c ∈ m, c.1 ≠ a) : Memory.wf (Memory.insert m a v) = true := by
  induction m with
  | nil => simp [Memory.insert, Memory.wf, Memory.below, ha, hv]
  | cons c rest ih =>
    obtain ⟨h1, h2, h3, h4⟩ := (Memory.wf_cons c rest).1 h
    have hc := hk c List.mem_cons_self
    by_cases hlt : a < c.1
    · simp only [Memory.insert, hlt, if_true]
      exact (Memory.wf_cons _ _).2 ⟨ha, hv, by simpa [Memory.below] using hlt, h⟩
    · simp only [Memory.insert, hlt, if_false]
      refine (Memory.wf_cons _ _).2 ⟨h1, h2, Memory.below_intro fun d hd => ?_,
        ih h4 fun d hd => hk d (List.mem_cons_of_mem _ hd)⟩
      rcases Memory.mem_insert rest a v d hd with rfl | hd
      · exact Nat.lt_of_le_of_ne (Nat.le_of_not_lt hlt) hc
      · exact Memory.below_of_wf h4 h3 d hd

/-- A write keeps the canonical form. -/
theorem Memory.wf_write (m : Memory) (a : Nat) (v : Byte) (h : Memory.wf m = true) (ha : a < 65536) :
    Memory.wf (Memory.write m a v) = true := by
  unfold Memory.write
  split
  · exact Memory.wf_erase m a h
  · next hv => exact Memory.wf_insert _ a v (Memory.wf_erase m a h) ha hv (Memory.erase_key m a)

/-- `MemWrite` keeps the canonical form. -/
theorem State.wf_writeByte (s : State) (a : Word) (v : Byte) (h : s.mem.wf = true) :
    (s.writeByte a v).mem.wf = true := Memory.wf_write s.mem a.toNat v h a.isLt

theorem State.wf_push16 (s : State) (v : Word) (h : s.mem.wf = true) : (s.push16 v).mem.wf = true :=
  Memory.wf_write _ _ _ (Memory.wf_write _ _ _ h (s.sp - 1).isLt) (s.sp - 2).isLt

theorem State.wf_placeBytes (s : State) (a : Word) (bytes : List Byte) (h : s.mem.wf = true) :
    (s.placeBytes a bytes).mem.wf = true := by
  induction bytes generalizing s a with
  | nil => exact h
  | cons v rest ih => exact ih _ _ (State.wf_writeByte s a v h)

/-! ### Memories given by a function -/

theorem Memory.mem_bytesFrom (g : Nat → Byte) (a n : Nat) : ∀ c ∈ Memory.bytesFrom g a n, a ≤ c.1 := by
  induction n generalizing a with
  | zero => simp [Memory.bytesFrom]
  | succ k ih =>
    intro c hc
    unfold Memory.bytesFrom at hc
    split at hc
    · exact Nat.le_of_succ_le (ih (a + 1) c hc)
    · rcases List.mem_cons.1 hc with rfl | hc
      · exact Nat.le_refl _
      · exact Nat.le_of_succ_le (ih (a + 1) c hc)

theorem Memory.wf_bytesFrom (g : Nat → Byte) (a n : Nat) (h : a + n ≤ 65536) :
    Memory.wf (Memory.bytesFrom g a n) = true := by
  induction n generalizing a with
  | zero => rfl
  | succ k ih =>
    have hw := ih (a + 1) (by omega)
    unfold Memory.bytesFrom
    split
    · exact hw
    · next hg =>
      exact (Memory.wf_cons _ _).2 ⟨by omega, hg, Memory.below_intro (Memory.mem_bytesFrom g (a + 1) k), hw⟩

theorem Memory.read_bytesFrom (g : Nat → Byte) (a n x : Nat) :
    Memory.read (Memory.bytesFrom g a n) x = if a ≤ x ∧ x < a + n then g x else Config.unlistedByte x := by
  induction n generalizing a with
  | zero =>
    rw [if_neg (by omega)]
    rfl
  | succ k ih =>
    unfold Memory.bytesFrom
    by_cases hg : g a = Config.unlistedByte a
    · rw [if_pos hg, ih]
      grind
    · rw [if_neg hg, Memory.read, ih]
      grind

/-- A memory given by a function is in canonical form. -/
theorem Memory.wf_ofBytes (g : Nat → Byte) : Memory.wf (Memory.ofBytes g) = true := Memory.wf_bytesFrom g 0 65536 (by omega)

/-- A memory given by a function reads as that function. -/
theorem Memory.read_ofBytes (g : Nat → Byte) (x : Nat) (h : x < 65536) : Memory.read (Memory.ofBytes g) x = g x := by
  rw [Memory.ofBytes, Memory.read_bytesFrom, if_pos (by omega)]

/-- An unlisted memory reads as `Config.unlistedByte` everywhere. -/
@[simp] theorem Memory.read_nil (x : Nat) : Memory.read [] x = Config.unlistedByte x := rfl

/-- The memory after reset, for any boot image and any initial content (R40). -/
theorem State.resetWith_mem (image : List Byte) (memInit : Nat → Byte) :
    (State.resetWith image memInit).mem = Memory.ofBytes fun a => (image[a]?).getD (memInit a) := rfl

theorem State.wf_reset : State.reset.mem.wf = true := rfl

end Sys2Proof.Machine
end

