-- ==== Sys2Proof/Laws/Ops.lean ====
section
/-! SUPPORT. Words and their halves, pairs, the stack, and taking the exception. -/

namespace Sys2Proof

theorem word16_toNat (hi lo : Byte) : (word16 hi lo).toNat = 256 * hi.toNat + lo.toNat := by
  have h := Nat.shiftLeft_add_eq_or_of_lt lo.isLt hi.toNat
  rw [Nat.shiftLeft_eq] at h
  simp only [word16, BitVec.toNat_append, Nat.shiftLeft_eq]
  omega

theorem hiByte_toNat (v : Word) : (hiByte v).toNat = v.toNat / 256 := by
  have := v.isLt
  simp only [hiByte, BitVec.extractLsb'_toNat, Nat.shiftRight_eq_div_pow]
  omega

theorem loByte_toNat (v : Word) : (loByte v).toNat = v.toNat % 256 := by
  simp [loByte, BitVec.extractLsb'_toNat]

@[simp] theorem hiByte_word16 (hi lo : Byte) : hiByte (word16 hi lo) = hi := by
  apply BitVec.eq_of_toNat_eq
  rw [hiByte_toNat, word16_toNat]
  omega

@[simp] theorem loByte_word16 (hi lo : Byte) : loByte (word16 hi lo) = lo := by
  apply BitVec.eq_of_toNat_eq
  rw [loByte_toNat, word16_toNat]
  omega

@[simp] theorem word16_hi_lo (v : Word) : word16 (hiByte v) (loByte v) = v := by
  apply BitVec.eq_of_toNat_eq
  rw [word16_toNat, hiByte_toNat, loByte_toNat]
  omega

end Sys2Proof

namespace Sys2Proof.Machine

/-! ### Pairs -/

/-- A pair holds what was written to it (R22). -/
@[simp] theorem State.pair_setPair (s : State) (p : Pair) (v : Word) : (s.setPair p v).pair p = v := by
  cases p <;> simp [State.setPair, State.pair, State.bc, State.de, State.hl]

/-- `BC`, `DE` and `HL` hold what `POP` wrote to them. -/
theorem State.stackPair_setStackPair (s : State) (p : StackPair) (v : Word) (h : p ≠ .af) :
    (s.setStackPair p v).stackPair p = v := by
  cases p <;> simp_all [State.setStackPair, State.stackPair, State.bc, State.de, State.hl]

/-- `AF` holds what `POP` wrote to it, the low nibble of `F` cleared (R23, R25). -/
theorem State.af_setAF (s : State) (v : Word) : (s.setAF v).af = word16 (hiByte v) (loByte v &&& 0xF0#8) := rfl

/-! ### Stack -/

/-- Which byte a push puts where (R166). -/
theorem State.readByte_push16 (s : State) (v x : Word) :
    (s.push16 v).readByte x =
      if x = s.sp - 2 then loByte v else if x = s.sp - 1 then hiByte v else s.readByte x := by
  change (((s.writeByte (s.sp - 1) (hiByte v)).writeByte (s.sp - 2) (loByte v)).readByte x) = _
  rw [State.readByte_writeByte, State.readByte_writeByte]

/-- A push followed by a pop gives the word back. -/
@[simp] theorem State.stackTop_push16 (s : State) (v : Word) : (s.push16 v).stackTop = v := by
  have h1 : s.sp - 2 + 1 = s.sp - 1 := by bv_omega
  have h2 : s.sp - 1 ≠ s.sp - 2 := by bv_omega
  rw [State.stackTop, State.readByte_push16, State.readByte_push16, State.push16_sp, h1]
  simp only [if_neg h2, if_true, word16_hi_lo]

/-! ### The exception -/

/-- Everything that taking the exception does: the run status changes, nothing else (R361, R362). -/
theorem raiseUnhandled_next {table : OpcodeTable} {op : Byte} {s t : State} (h : raiseUnhandled table op s = .next t) :
    t = { s with status := .faulted table op s.pc } := by
  cases h
  rfl

end Sys2Proof.Machine
end

