-- ==== Sys2Proof/Laws/Exec.lean ====
section
/-! SUPPORT. What each shared operation of the meanings does to the rest of the machine, said once: it answers a next state, it
leaves the PPU and the run status alone, it keeps the low nibble of `F` zero and the memory canonical, and, unless it is a
control transfer, it ends past the instruction (spec R2, R25, R27). -/

namespace Sys2Proof.Machine

/-- `r` is a next state that has the PPU and the run status of `s`, and whose `F` and memory are well-formed if those of `s` are. -/
def Contained (s : State) (r : Result) : Prop :=
  ∃ t, r = .next t ∧ t.ppu = s.ppu ∧ t.status = s.status ∧ (s.f &&& 0x0F#8 = 0#8 → t.f &&& 0x0F#8 = 0#8) ∧
    (s.mem.wf = true → t.mem.wf = true)

/-- `Contained`, and the next state is past an instruction of `len` bytes. -/
def Sequential (len : Nat) (s : State) (r : Result) : Prop :=
  ∃ t, r = .next t ∧ t.ppu = s.ppu ∧ t.status = s.status ∧ (s.f &&& 0x0F#8 = 0#8 → t.f &&& 0x0F#8 = 0#8) ∧
    (s.mem.wf = true → t.mem.wf = true) ∧ t.pc = s.pc + BitVec.ofNat 16 len

theorem Sequential.contained {len : Nat} {s : State} {r : Result} (h : Sequential len s r) : Contained s r := by
  obtain ⟨t, h1, h2, h3, h4, h5, -⟩ := h
  exact ⟨t, h1, h2, h3, h4, h5⟩

theorem State.wf_setOperand (s : State) (o : Operand8) (v : Byte) (h : s.mem.wf = true) : (s.setOperand o v).mem.wf = true := by
  rcases o with r | _
  · simpa [State.setOperand] using h
  · exact State.wf_writeByte s _ v h

theorem State.low_setStackPair (s : State) (p : StackPair) (v : Word) (h : s.f &&& 0x0F#8 = 0#8) :
    (s.setStackPair p v).f &&& 0x0F#8 = 0#8 := by
  cases p
  · exact h
  · exact h
  · exact h
  · exact highNibble_low _

/-! ### Loads and stores -/

theorem loadReg_sequential (dst : Reg) (v : Byte) (len : Nat) (s : State) : Sequential len s (loadReg dst v len s) :=
  ⟨_, rfl, by simp, by simp, by simp, by simp, by simp⟩

theorem storeByte_sequential (addr : Word) (v : Byte) (len : Nat) (s : State) : Sequential len s (storeByte addr v len s) :=
  ⟨_, rfl, rfl, rfl, id, fun h => State.wf_writeByte (s.advance len) addr v h, rfl⟩

theorem storeStepHL_sequential (delta : Word) (s : State) : Sequential 1 s (storeStepHL delta s) :=
  ⟨_, rfl, rfl, rfl, id, fun h => State.wf_writeByte (s.advance 1) s.hl s.a h, rfl⟩

theorem loadStepHL_sequential (delta : Word) (s : State) : Sequential 1 s (loadStepHL delta s) :=
  ⟨_, rfl, rfl, rfl, id, id, rfl⟩

theorem loadPair_sequential (p : Pair) (v : Word) (s : State) : Sequential 3 s (loadPair p v s) :=
  ⟨_, rfl, by simp, by simp, by simp, by simp, by simp⟩

theorem pushPairStep_sequential (p : StackPair) (s : State) : Sequential 1 s (pushPairStep p s) :=
  ⟨_, rfl, rfl, rfl, id, fun h => State.wf_push16 (s.advance 1) _ h, rfl⟩

theorem popPairStep_sequential (p : StackPair) (s : State) : Sequential 1 s (popPairStep p s) :=
  ⟨_, rfl, by simp, by simp, fun h => State.low_setStackPair (s.advance 1).dropTop p _ h, by simp, by simp⟩

/-! ### Arithmetic, logic, rotates, bits -/

theorem aluStep_sequential (op : AluOp) (v : Byte) (len : Nat) (s : State) : Sequential len s (aluStep op v len s) :=
  ⟨_, rfl, rfl, rfl, fun _ => aluFlags_low .., id, rfl⟩

theorem incStep_sequential (o : Operand8) (s : State) : Sequential 1 s (incStep o s) :=
  ⟨_, rfl, by simp, by simp, fun _ => by simp, fun h => State.wf_setOperand _ o _ h, by simp⟩

theorem decStep_sequential (o : Operand8) (s : State) : Sequential 1 s (decStep o s) :=
  ⟨_, rfl, by simp, by simp, fun _ => by simp, fun h => State.wf_setOperand _ o _ h, by simp⟩

theorem addHLStep_sequential (p : Pair) (s : State) : Sequential 1 s (addHLStep p s) :=
  ⟨_, rfl, rfl, rfl, fun _ => addWordFlags_low .., id, rfl⟩

theorem incPairStep_sequential (p : Pair) (s : State) : Sequential 1 s (incPairStep p s) :=
  ⟨_, rfl, by simp, by simp, by simp, by simp, by simp⟩

theorem decPairStep_sequential (p : Pair) (s : State) : Sequential 1 s (decPairStep p s) :=
  ⟨_, rfl, by simp, by simp, by simp, by simp, by simp⟩

theorem rotAccStep_sequential (op : RotOp) (s : State) : Sequential 1 s (rotAccStep op s) :=
  ⟨_, rfl, rfl, rfl, fun _ => rotAccFlags_low .., id, rfl⟩

theorem rotStep_sequential (op : RotOp) (o : Operand8) (s : State) : Sequential 2 s (rotStep op o s) :=
  ⟨_, rfl, by simp, by simp, fun _ => by simp, fun h => State.wf_setOperand _ o _ h, by simp⟩

theorem bitStep_sequential (b : Fin 8) (o : Operand8) (s : State) : Sequential 2 s (bitStep b o s) :=
  ⟨_, rfl, rfl, rfl, fun _ => bitFlags_low .., id, rfl⟩

theorem resStep_sequential (b : Fin 8) (o : Operand8) (s : State) : Sequential 2 s (resStep b o s) :=
  ⟨_, rfl, by simp, by simp, by simp, fun h => State.wf_setOperand (s.advance 2) o _ h, by simp⟩

theorem setStep_sequential (b : Fin 8) (o : Operand8) (s : State) : Sequential 2 s (setStep b o s) :=
  ⟨_, rfl, by simp, by simp, by simp, fun h => State.wf_setOperand (s.advance 2) o _ h, by simp⟩

/-! ### Control transfer -/

theorem jumpIf_contained (taken : Bool) (target : Word) (len : Nat) (s : State) : Contained s (jumpIf taken target len s) := by
  cases taken <;> exact ⟨_, rfl, rfl, rfl, id, id⟩

theorem callIf_contained (taken : Bool) (target : Word) (len : Nat) (s : State) : Contained s (callIf taken target len s) := by
  cases taken
  · exact ⟨_, rfl, rfl, rfl, id, id⟩
  · refine ⟨((s.advance len).push16 (s.advance len).pc).jump target, rfl, ?_, ?_, ?_, fun h => ?_⟩ <;> simp only [State.jump_ppu,
      State.push16_ppu, State.advance_ppu, State.jump_status, State.push16_status, State.advance_status, State.jump_f,
      State.push16_f, State.advance_f, State.jump_mem, imp_self]
    exact State.wf_push16 (s.advance len) _ h

theorem returnIf_contained (taken : Bool) (s : State) : Contained s (returnIf taken s) := by
  cases taken <;> exact ⟨_, rfl, rfl, rfl, id, id⟩

/-! ### The prefix -/

theorem exec_prefixCB_sequential (op2 : Byte) (s : State) : Sequential 2 s (exec_prefixCB op2 s) := by
  unfold exec_prefixCB
  dsimp only
  split
  · exact rotStep_sequential ..
  · exact bitStep_sequential ..
  · exact resStep_sequential ..
  · exact setStep_sequential ..

end Sys2Proof.Machine
end

