-- ==== Sys2Proof/Laws/PerInstr.lean ====
section
/-! SUPPORT. Facts about each instruction as syntax. `EncodingLength`: the encoding is not empty and as long as its first byte
says (spec R91, R104). -/

namespace Sys2Proof.Laws.EncodingLength

/-- The encoding of `i` begins with a byte that determines its length. -/
def Statement (i : Instr) : Prop := ∃ op rest, encode i = op :: rest ∧ (encode i).length = lengthOf op

theorem ld_bc_d16 (d16 : Word) : Statement (Instr.ld_bc_d16 d16) := ⟨_, _, rfl, rfl⟩
theorem ld_b_d8 (d8 : Byte) : Statement (Instr.ld_b_d8 d8) := ⟨_, _, rfl, rfl⟩
theorem ld_at16_sp (a16 : Word) : Statement (Instr.ld_at16_sp a16) := ⟨_, _, rfl, rfl⟩
theorem ld_c_d8 (d8 : Byte) : Statement (Instr.ld_c_d8 d8) := ⟨_, _, rfl, rfl⟩
theorem ld_de_d16 (d16 : Word) : Statement (Instr.ld_de_d16 d16) := ⟨_, _, rfl, rfl⟩
theorem ld_d_d8 (d8 : Byte) : Statement (Instr.ld_d_d8 d8) := ⟨_, _, rfl, rfl⟩
theorem jr_e8 (e8 : Byte) : Statement (Instr.jr_e8 e8) := ⟨_, _, rfl, rfl⟩
theorem ld_e_d8 (d8 : Byte) : Statement (Instr.ld_e_d8 d8) := ⟨_, _, rfl, rfl⟩
theorem jr_nz_e8 (e8 : Byte) : Statement (Instr.jr_nz_e8 e8) := ⟨_, _, rfl, rfl⟩
theorem ld_hl_d16 (d16 : Word) : Statement (Instr.ld_hl_d16 d16) := ⟨_, _, rfl, rfl⟩
theorem ld_h_d8 (d8 : Byte) : Statement (Instr.ld_h_d8 d8) := ⟨_, _, rfl, rfl⟩
theorem jr_z_e8 (e8 : Byte) : Statement (Instr.jr_z_e8 e8) := ⟨_, _, rfl, rfl⟩
theorem ld_l_d8 (d8 : Byte) : Statement (Instr.ld_l_d8 d8) := ⟨_, _, rfl, rfl⟩
theorem jr_nc_e8 (e8 : Byte) : Statement (Instr.jr_nc_e8 e8) := ⟨_, _, rfl, rfl⟩
theorem ld_sp_d16 (d16 : Word) : Statement (Instr.ld_sp_d16 d16) := ⟨_, _, rfl, rfl⟩
theorem ld_atHL_d8 (d8 : Byte) : Statement (Instr.ld_atHL_d8 d8) := ⟨_, _, rfl, rfl⟩
theorem jr_c_e8 (e8 : Byte) : Statement (Instr.jr_c_e8 e8) := ⟨_, _, rfl, rfl⟩
theorem ld_a_d8 (d8 : Byte) : Statement (Instr.ld_a_d8 d8) := ⟨_, _, rfl, rfl⟩
theorem jp_nz_a16 (a16 : Word) : Statement (Instr.jp_nz_a16 a16) := ⟨_, _, rfl, rfl⟩
theorem jp_a16 (a16 : Word) : Statement (Instr.jp_a16 a16) := ⟨_, _, rfl, rfl⟩
theorem call_nz_a16 (a16 : Word) : Statement (Instr.call_nz_a16 a16) := ⟨_, _, rfl, rfl⟩
theorem add_a_d8 (d8 : Byte) : Statement (Instr.add_a_d8 d8) := ⟨_, _, rfl, rfl⟩
theorem jp_z_a16 (a16 : Word) : Statement (Instr.jp_z_a16 a16) := ⟨_, _, rfl, rfl⟩
theorem prefixCB (op2 : Byte) : Statement (Instr.prefixCB op2) := ⟨_, _, rfl, rfl⟩
theorem call_z_a16 (a16 : Word) : Statement (Instr.call_z_a16 a16) := ⟨_, _, rfl, rfl⟩
theorem call_a16 (a16 : Word) : Statement (Instr.call_a16 a16) := ⟨_, _, rfl, rfl⟩
theorem adc_a_d8 (d8 : Byte) : Statement (Instr.adc_a_d8 d8) := ⟨_, _, rfl, rfl⟩
theorem jp_nc_a16 (a16 : Word) : Statement (Instr.jp_nc_a16 a16) := ⟨_, _, rfl, rfl⟩
theorem call_nc_a16 (a16 : Word) : Statement (Instr.call_nc_a16 a16) := ⟨_, _, rfl, rfl⟩
theorem sub_d8 (d8 : Byte) : Statement (Instr.sub_d8 d8) := ⟨_, _, rfl, rfl⟩
theorem jp_c_a16 (a16 : Word) : Statement (Instr.jp_c_a16 a16) := ⟨_, _, rfl, rfl⟩
theorem call_c_a16 (a16 : Word) : Statement (Instr.call_c_a16 a16) := ⟨_, _, rfl, rfl⟩
theorem sbc_a_d8 (d8 : Byte) : Statement (Instr.sbc_a_d8 d8) := ⟨_, _, rfl, rfl⟩
theorem ldh_at8_a (a8 : Byte) : Statement (Instr.ldh_at8_a a8) := ⟨_, _, rfl, rfl⟩
theorem and_d8 (d8 : Byte) : Statement (Instr.and_d8 d8) := ⟨_, _, rfl, rfl⟩
theorem add_sp_e8 (e8 : Byte) : Statement (Instr.add_sp_e8 e8) := ⟨_, _, rfl, rfl⟩
theorem ld_at16_a (a16 : Word) : Statement (Instr.ld_at16_a a16) := ⟨_, _, rfl, rfl⟩
theorem xor_d8 (d8 : Byte) : Statement (Instr.xor_d8 d8) := ⟨_, _, rfl, rfl⟩
theorem ldh_a_at8 (a8 : Byte) : Statement (Instr.ldh_a_at8 a8) := ⟨_, _, rfl, rfl⟩
theorem or_d8 (d8 : Byte) : Statement (Instr.or_d8 d8) := ⟨_, _, rfl, rfl⟩
theorem ld_hl_sp_e8 (e8 : Byte) : Statement (Instr.ld_hl_sp_e8 e8) := ⟨_, _, rfl, rfl⟩
theorem ld_a_at16 (a16 : Word) : Statement (Instr.ld_a_at16 a16) := ⟨_, _, rfl, rfl⟩
theorem cp_d8 (d8 : Byte) : Statement (Instr.cp_d8 d8) := ⟨_, _, rfl, rfl⟩
theorem nop : Statement Instr.nop := ⟨_, _, rfl, rfl⟩
theorem ld_atBC_a : Statement Instr.ld_atBC_a := ⟨_, _, rfl, rfl⟩
theorem inc_bc : Statement Instr.inc_bc := ⟨_, _, rfl, rfl⟩
theorem inc_b : Statement Instr.inc_b := ⟨_, _, rfl, rfl⟩
theorem dec_b : Statement Instr.dec_b := ⟨_, _, rfl, rfl⟩
theorem rlca : Statement Instr.rlca := ⟨_, _, rfl, rfl⟩
theorem add_hl_bc : Statement Instr.add_hl_bc := ⟨_, _, rfl, rfl⟩
theorem ld_a_atBC : Statement Instr.ld_a_atBC := ⟨_, _, rfl, rfl⟩
theorem dec_bc : Statement Instr.dec_bc := ⟨_, _, rfl, rfl⟩
theorem inc_c : Statement Instr.inc_c := ⟨_, _, rfl, rfl⟩
theorem dec_c : Statement Instr.dec_c := ⟨_, _, rfl, rfl⟩
theorem rrca : Statement Instr.rrca := ⟨_, _, rfl, rfl⟩
theorem unhandled_stop : Statement Instr.unhandled_stop := ⟨_, _, rfl, rfl⟩
theorem ld_atDE_a : Statement Instr.ld_atDE_a := ⟨_, _, rfl, rfl⟩
theorem inc_de : Statement Instr.inc_de := ⟨_, _, rfl, rfl⟩
theorem inc_d : Statement Instr.inc_d := ⟨_, _, rfl, rfl⟩
theorem dec_d : Statement Instr.dec_d := ⟨_, _, rfl, rfl⟩
theorem rla : Statement Instr.rla := ⟨_, _, rfl, rfl⟩
theorem add_hl_de : Statement Instr.add_hl_de := ⟨_, _, rfl, rfl⟩
theorem ld_a_atDE : Statement Instr.ld_a_atDE := ⟨_, _, rfl, rfl⟩
theorem dec_de : Statement Instr.dec_de := ⟨_, _, rfl, rfl⟩
theorem inc_e : Statement Instr.inc_e := ⟨_, _, rfl, rfl⟩
theorem dec_e : Statement Instr.dec_e := ⟨_, _, rfl, rfl⟩
theorem rra : Statement Instr.rra := ⟨_, _, rfl, rfl⟩
theorem ld_atHLI_a : Statement Instr.ld_atHLI_a := ⟨_, _, rfl, rfl⟩
theorem inc_hl : Statement Instr.inc_hl := ⟨_, _, rfl, rfl⟩
theorem inc_h : Statement Instr.inc_h := ⟨_, _, rfl, rfl⟩
theorem dec_h : Statement Instr.dec_h := ⟨_, _, rfl, rfl⟩
theorem daa : Statement Instr.daa := ⟨_, _, rfl, rfl⟩
theorem add_hl_hl : Statement Instr.add_hl_hl := ⟨_, _, rfl, rfl⟩
theorem ld_a_atHLI : Statement Instr.ld_a_atHLI := ⟨_, _, rfl, rfl⟩
theorem dec_hl : Statement Instr.dec_hl := ⟨_, _, rfl, rfl⟩
theorem inc_l : Statement Instr.inc_l := ⟨_, _, rfl, rfl⟩
theorem dec_l : Statement Instr.dec_l := ⟨_, _, rfl, rfl⟩
theorem cpl : Statement Instr.cpl := ⟨_, _, rfl, rfl⟩
theorem ld_atHLD_a : Statement Instr.ld_atHLD_a := ⟨_, _, rfl, rfl⟩
theorem inc_sp : Statement Instr.inc_sp := ⟨_, _, rfl, rfl⟩
theorem inc_atHL : Statement Instr.inc_atHL := ⟨_, _, rfl, rfl⟩
theorem dec_atHL : Statement Instr.dec_atHL := ⟨_, _, rfl, rfl⟩
theorem scf : Statement Instr.scf := ⟨_, _, rfl, rfl⟩
theorem add_hl_sp : Statement Instr.add_hl_sp := ⟨_, _, rfl, rfl⟩
theorem ld_a_atHLD : Statement Instr.ld_a_atHLD := ⟨_, _, rfl, rfl⟩
theorem dec_sp : Statement Instr.dec_sp := ⟨_, _, rfl, rfl⟩
theorem inc_a : Statement Instr.inc_a := ⟨_, _, rfl, rfl⟩
theorem dec_a : Statement Instr.dec_a := ⟨_, _, rfl, rfl⟩
theorem ccf : Statement Instr.ccf := ⟨_, _, rfl, rfl⟩
theorem ld_b_b : Statement Instr.ld_b_b := ⟨_, _, rfl, rfl⟩
theorem ld_b_c : Statement Instr.ld_b_c := ⟨_, _, rfl, rfl⟩
theorem ld_b_d : Statement Instr.ld_b_d := ⟨_, _, rfl, rfl⟩
theorem ld_b_e : Statement Instr.ld_b_e := ⟨_, _, rfl, rfl⟩
theorem ld_b_h : Statement Instr.ld_b_h := ⟨_, _, rfl, rfl⟩
theorem ld_b_l : Statement Instr.ld_b_l := ⟨_, _, rfl, rfl⟩
theorem ld_b_atHL : Statement Instr.ld_b_atHL := ⟨_, _, rfl, rfl⟩
theorem ld_b_a : Statement Instr.ld_b_a := ⟨_, _, rfl, rfl⟩
theorem ld_c_b : Statement Instr.ld_c_b := ⟨_, _, rfl, rfl⟩
theorem ld_c_c : Statement Instr.ld_c_c := ⟨_, _, rfl, rfl⟩
theorem ld_c_d : Statement Instr.ld_c_d := ⟨_, _, rfl, rfl⟩
theorem ld_c_e : Statement Instr.ld_c_e := ⟨_, _, rfl, rfl⟩
theorem ld_c_h : Statement Instr.ld_c_h := ⟨_, _, rfl, rfl⟩
theorem ld_c_l : Statement Instr.ld_c_l := ⟨_, _, rfl, rfl⟩
theorem ld_c_atHL : Statement Instr.ld_c_atHL := ⟨_, _, rfl, rfl⟩
theorem ld_c_a : Statement Instr.ld_c_a := ⟨_, _, rfl, rfl⟩
theorem ld_d_b : Statement Instr.ld_d_b := ⟨_, _, rfl, rfl⟩
theorem ld_d_c : Statement Instr.ld_d_c := ⟨_, _, rfl, rfl⟩
theorem ld_d_d : Statement Instr.ld_d_d := ⟨_, _, rfl, rfl⟩
theorem ld_d_e : Statement Instr.ld_d_e := ⟨_, _, rfl, rfl⟩
theorem ld_d_h : Statement Instr.ld_d_h := ⟨_, _, rfl, rfl⟩
theorem ld_d_l : Statement Instr.ld_d_l := ⟨_, _, rfl, rfl⟩
theorem ld_d_atHL : Statement Instr.ld_d_atHL := ⟨_, _, rfl, rfl⟩
theorem ld_d_a : Statement Instr.ld_d_a := ⟨_, _, rfl, rfl⟩
theorem ld_e_b : Statement Instr.ld_e_b := ⟨_, _, rfl, rfl⟩
theorem ld_e_c : Statement Instr.ld_e_c := ⟨_, _, rfl, rfl⟩
theorem ld_e_d : Statement Instr.ld_e_d := ⟨_, _, rfl, rfl⟩
theorem ld_e_e : Statement Instr.ld_e_e := ⟨_, _, rfl, rfl⟩
theorem ld_e_h : Statement Instr.ld_e_h := ⟨_, _, rfl, rfl⟩
theorem ld_e_l : Statement Instr.ld_e_l := ⟨_, _, rfl, rfl⟩
theorem ld_e_atHL : Statement Instr.ld_e_atHL := ⟨_, _, rfl, rfl⟩
theorem ld_e_a : Statement Instr.ld_e_a := ⟨_, _, rfl, rfl⟩
theorem ld_h_b : Statement Instr.ld_h_b := ⟨_, _, rfl, rfl⟩
theorem ld_h_c : Statement Instr.ld_h_c := ⟨_, _, rfl, rfl⟩
theorem ld_h_d : Statement Instr.ld_h_d := ⟨_, _, rfl, rfl⟩
theorem ld_h_e : Statement Instr.ld_h_e := ⟨_, _, rfl, rfl⟩
theorem ld_h_h : Statement Instr.ld_h_h := ⟨_, _, rfl, rfl⟩
theorem ld_h_l : Statement Instr.ld_h_l := ⟨_, _, rfl, rfl⟩
theorem ld_h_atHL : Statement Instr.ld_h_atHL := ⟨_, _, rfl, rfl⟩
theorem ld_h_a : Statement Instr.ld_h_a := ⟨_, _, rfl, rfl⟩
theorem ld_l_b : Statement Instr.ld_l_b := ⟨_, _, rfl, rfl⟩
theorem ld_l_c : Statement Instr.ld_l_c := ⟨_, _, rfl, rfl⟩
theorem ld_l_d : Statement Instr.ld_l_d := ⟨_, _, rfl, rfl⟩
theorem ld_l_e : Statement Instr.ld_l_e := ⟨_, _, rfl, rfl⟩
theorem ld_l_h : Statement Instr.ld_l_h := ⟨_, _, rfl, rfl⟩
theorem ld_l_l : Statement Instr.ld_l_l := ⟨_, _, rfl, rfl⟩
theorem ld_l_atHL : Statement Instr.ld_l_atHL := ⟨_, _, rfl, rfl⟩
theorem ld_l_a : Statement Instr.ld_l_a := ⟨_, _, rfl, rfl⟩
theorem ld_atHL_b : Statement Instr.ld_atHL_b := ⟨_, _, rfl, rfl⟩
theorem ld_atHL_c : Statement Instr.ld_atHL_c := ⟨_, _, rfl, rfl⟩
theorem ld_atHL_d : Statement Instr.ld_atHL_d := ⟨_, _, rfl, rfl⟩
theorem ld_atHL_e : Statement Instr.ld_atHL_e := ⟨_, _, rfl, rfl⟩
theorem ld_atHL_h : Statement Instr.ld_atHL_h := ⟨_, _, rfl, rfl⟩
theorem ld_atHL_l : Statement Instr.ld_atHL_l := ⟨_, _, rfl, rfl⟩
theorem unhandled_halt : Statement Instr.unhandled_halt := ⟨_, _, rfl, rfl⟩
theorem ld_atHL_a : Statement Instr.ld_atHL_a := ⟨_, _, rfl, rfl⟩
theorem ld_a_b : Statement Instr.ld_a_b := ⟨_, _, rfl, rfl⟩
theorem ld_a_c : Statement Instr.ld_a_c := ⟨_, _, rfl, rfl⟩
theorem ld_a_d : Statement Instr.ld_a_d := ⟨_, _, rfl, rfl⟩
theorem ld_a_e : Statement Instr.ld_a_e := ⟨_, _, rfl, rfl⟩
theorem ld_a_h : Statement Instr.ld_a_h := ⟨_, _, rfl, rfl⟩
theorem ld_a_l : Statement Instr.ld_a_l := ⟨_, _, rfl, rfl⟩
theorem ld_a_atHL : Statement Instr.ld_a_atHL := ⟨_, _, rfl, rfl⟩
theorem ld_a_a : Statement Instr.ld_a_a := ⟨_, _, rfl, rfl⟩
theorem add_a_b : Statement Instr.add_a_b := ⟨_, _, rfl, rfl⟩
theorem add_a_c : Statement Instr.add_a_c := ⟨_, _, rfl, rfl⟩
theorem add_a_d : Statement Instr.add_a_d := ⟨_, _, rfl, rfl⟩
theorem add_a_e : Statement Instr.add_a_e := ⟨_, _, rfl, rfl⟩
theorem add_a_h : Statement Instr.add_a_h := ⟨_, _, rfl, rfl⟩
theorem add_a_l : Statement Instr.add_a_l := ⟨_, _, rfl, rfl⟩
theorem add_a_atHL : Statement Instr.add_a_atHL := ⟨_, _, rfl, rfl⟩
theorem add_a_a : Statement Instr.add_a_a := ⟨_, _, rfl, rfl⟩
theorem adc_a_b : Statement Instr.adc_a_b := ⟨_, _, rfl, rfl⟩
theorem adc_a_c : Statement Instr.adc_a_c := ⟨_, _, rfl, rfl⟩
theorem adc_a_d : Statement Instr.adc_a_d := ⟨_, _, rfl, rfl⟩
theorem adc_a_e : Statement Instr.adc_a_e := ⟨_, _, rfl, rfl⟩
theorem adc_a_h : Statement Instr.adc_a_h := ⟨_, _, rfl, rfl⟩
theorem adc_a_l : Statement Instr.adc_a_l := ⟨_, _, rfl, rfl⟩
theorem adc_a_atHL : Statement Instr.adc_a_atHL := ⟨_, _, rfl, rfl⟩
theorem adc_a_a : Statement Instr.adc_a_a := ⟨_, _, rfl, rfl⟩
theorem sub_b : Statement Instr.sub_b := ⟨_, _, rfl, rfl⟩
theorem sub_c : Statement Instr.sub_c := ⟨_, _, rfl, rfl⟩
theorem sub_d : Statement Instr.sub_d := ⟨_, _, rfl, rfl⟩
theorem sub_e : Statement Instr.sub_e := ⟨_, _, rfl, rfl⟩
theorem sub_h : Statement Instr.sub_h := ⟨_, _, rfl, rfl⟩
theorem sub_l : Statement Instr.sub_l := ⟨_, _, rfl, rfl⟩
theorem sub_atHL : Statement Instr.sub_atHL := ⟨_, _, rfl, rfl⟩
theorem sub_a : Statement Instr.sub_a := ⟨_, _, rfl, rfl⟩
theorem sbc_a_b : Statement Instr.sbc_a_b := ⟨_, _, rfl, rfl⟩
theorem sbc_a_c : Statement Instr.sbc_a_c := ⟨_, _, rfl, rfl⟩
theorem sbc_a_d : Statement Instr.sbc_a_d := ⟨_, _, rfl, rfl⟩
theorem sbc_a_e : Statement Instr.sbc_a_e := ⟨_, _, rfl, rfl⟩
theorem sbc_a_h : Statement Instr.sbc_a_h := ⟨_, _, rfl, rfl⟩
theorem sbc_a_l : Statement Instr.sbc_a_l := ⟨_, _, rfl, rfl⟩
theorem sbc_a_atHL : Statement Instr.sbc_a_atHL := ⟨_, _, rfl, rfl⟩
theorem sbc_a_a : Statement Instr.sbc_a_a := ⟨_, _, rfl, rfl⟩
theorem and_b : Statement Instr.and_b := ⟨_, _, rfl, rfl⟩
theorem and_c : Statement Instr.and_c := ⟨_, _, rfl, rfl⟩
theorem and_d : Statement Instr.and_d := ⟨_, _, rfl, rfl⟩
theorem and_e : Statement Instr.and_e := ⟨_, _, rfl, rfl⟩
theorem and_h : Statement Instr.and_h := ⟨_, _, rfl, rfl⟩
theorem and_l : Statement Instr.and_l := ⟨_, _, rfl, rfl⟩
theorem and_atHL : Statement Instr.and_atHL := ⟨_, _, rfl, rfl⟩
theorem and_a : Statement Instr.and_a := ⟨_, _, rfl, rfl⟩
theorem xor_b : Statement Instr.xor_b := ⟨_, _, rfl, rfl⟩
theorem xor_c : Statement Instr.xor_c := ⟨_, _, rfl, rfl⟩
theorem xor_d : Statement Instr.xor_d := ⟨_, _, rfl, rfl⟩
theorem xor_e : Statement Instr.xor_e := ⟨_, _, rfl, rfl⟩
theorem xor_h : Statement Instr.xor_h := ⟨_, _, rfl, rfl⟩
theorem xor_l : Statement Instr.xor_l := ⟨_, _, rfl, rfl⟩
theorem xor_atHL : Statement Instr.xor_atHL := ⟨_, _, rfl, rfl⟩
theorem xor_a : Statement Instr.xor_a := ⟨_, _, rfl, rfl⟩
theorem or_b : Statement Instr.or_b := ⟨_, _, rfl, rfl⟩
theorem or_c : Statement Instr.or_c := ⟨_, _, rfl, rfl⟩
theorem or_d : Statement Instr.or_d := ⟨_, _, rfl, rfl⟩
theorem or_e : Statement Instr.or_e := ⟨_, _, rfl, rfl⟩
theorem or_h : Statement Instr.or_h := ⟨_, _, rfl, rfl⟩
theorem or_l : Statement Instr.or_l := ⟨_, _, rfl, rfl⟩
theorem or_atHL : Statement Instr.or_atHL := ⟨_, _, rfl, rfl⟩
theorem or_a : Statement Instr.or_a := ⟨_, _, rfl, rfl⟩
theorem cp_b : Statement Instr.cp_b := ⟨_, _, rfl, rfl⟩
theorem cp_c : Statement Instr.cp_c := ⟨_, _, rfl, rfl⟩
theorem cp_d : Statement Instr.cp_d := ⟨_, _, rfl, rfl⟩
theorem cp_e : Statement Instr.cp_e := ⟨_, _, rfl, rfl⟩
theorem cp_h : Statement Instr.cp_h := ⟨_, _, rfl, rfl⟩
theorem cp_l : Statement Instr.cp_l := ⟨_, _, rfl, rfl⟩
theorem cp_atHL : Statement Instr.cp_atHL := ⟨_, _, rfl, rfl⟩
theorem cp_a : Statement Instr.cp_a := ⟨_, _, rfl, rfl⟩
theorem ret_nz : Statement Instr.ret_nz := ⟨_, _, rfl, rfl⟩
theorem pop_bc : Statement Instr.pop_bc := ⟨_, _, rfl, rfl⟩
theorem push_bc : Statement Instr.push_bc := ⟨_, _, rfl, rfl⟩
theorem rst_00 : Statement Instr.rst_00 := ⟨_, _, rfl, rfl⟩
theorem ret_z : Statement Instr.ret_z := ⟨_, _, rfl, rfl⟩
theorem ret : Statement Instr.ret := ⟨_, _, rfl, rfl⟩
theorem rst_08 : Statement Instr.rst_08 := ⟨_, _, rfl, rfl⟩
theorem ret_nc : Statement Instr.ret_nc := ⟨_, _, rfl, rfl⟩
theorem pop_de : Statement Instr.pop_de := ⟨_, _, rfl, rfl⟩
theorem unhandled_D3 : Statement Instr.unhandled_D3 := ⟨_, _, rfl, rfl⟩
theorem push_de : Statement Instr.push_de := ⟨_, _, rfl, rfl⟩
theorem rst_10 : Statement Instr.rst_10 := ⟨_, _, rfl, rfl⟩
theorem ret_c : Statement Instr.ret_c := ⟨_, _, rfl, rfl⟩
theorem unhandled_reti : Statement Instr.unhandled_reti := ⟨_, _, rfl, rfl⟩
theorem unhandled_DB : Statement Instr.unhandled_DB := ⟨_, _, rfl, rfl⟩
theorem unhandled_DD : Statement Instr.unhandled_DD := ⟨_, _, rfl, rfl⟩
theorem rst_18 : Statement Instr.rst_18 := ⟨_, _, rfl, rfl⟩
theorem pop_hl : Statement Instr.pop_hl := ⟨_, _, rfl, rfl⟩
theorem ld_atC_a : Statement Instr.ld_atC_a := ⟨_, _, rfl, rfl⟩
theorem unhandled_E3 : Statement Instr.unhandled_E3 := ⟨_, _, rfl, rfl⟩
theorem unhandled_E4 : Statement Instr.unhandled_E4 := ⟨_, _, rfl, rfl⟩
theorem push_hl : Statement Instr.push_hl := ⟨_, _, rfl, rfl⟩
theorem rst_20 : Statement Instr.rst_20 := ⟨_, _, rfl, rfl⟩
theorem jp_hl : Statement Instr.jp_hl := ⟨_, _, rfl, rfl⟩
theorem unhandled_EB : Statement Instr.unhandled_EB := ⟨_, _, rfl, rfl⟩
theorem unhandled_EC : Statement Instr.unhandled_EC := ⟨_, _, rfl, rfl⟩
theorem unhandled_ED : Statement Instr.unhandled_ED := ⟨_, _, rfl, rfl⟩
theorem rst_28 : Statement Instr.rst_28 := ⟨_, _, rfl, rfl⟩
theorem pop_af : Statement Instr.pop_af := ⟨_, _, rfl, rfl⟩
theorem ld_a_atC : Statement Instr.ld_a_atC := ⟨_, _, rfl, rfl⟩
theorem unhandled_di : Statement Instr.unhandled_di := ⟨_, _, rfl, rfl⟩
theorem unhandled_F4 : Statement Instr.unhandled_F4 := ⟨_, _, rfl, rfl⟩
theorem push_af : Statement Instr.push_af := ⟨_, _, rfl, rfl⟩
theorem rst_30 : Statement Instr.rst_30 := ⟨_, _, rfl, rfl⟩
theorem ld_sp_hl : Statement Instr.ld_sp_hl := ⟨_, _, rfl, rfl⟩
theorem unhandled_ei : Statement Instr.unhandled_ei := ⟨_, _, rfl, rfl⟩
theorem unhandled_FC : Statement Instr.unhandled_FC := ⟨_, _, rfl, rfl⟩
theorem unhandled_FD : Statement Instr.unhandled_FD := ⟨_, _, rfl, rfl⟩
theorem rst_38 : Statement Instr.rst_38 := ⟨_, _, rfl, rfl⟩
theorem rlc_b : Statement Instr.rlc_b := ⟨_, _, rfl, rfl⟩
theorem rlc_c : Statement Instr.rlc_c := ⟨_, _, rfl, rfl⟩
theorem rlc_d : Statement Instr.rlc_d := ⟨_, _, rfl, rfl⟩
theorem rlc_e : Statement Instr.rlc_e := ⟨_, _, rfl, rfl⟩
theorem rlc_h : Statement Instr.rlc_h := ⟨_, _, rfl, rfl⟩
theorem rlc_l : Statement Instr.rlc_l := ⟨_, _, rfl, rfl⟩
theorem rlc_atHL : Statement Instr.rlc_atHL := ⟨_, _, rfl, rfl⟩
theorem rlc_a : Statement Instr.rlc_a := ⟨_, _, rfl, rfl⟩
theorem rrc_b : Statement Instr.rrc_b := ⟨_, _, rfl, rfl⟩
theorem rrc_c : Statement Instr.rrc_c := ⟨_, _, rfl, rfl⟩
theorem rrc_d : Statement Instr.rrc_d := ⟨_, _, rfl, rfl⟩
theorem rrc_e : Statement Instr.rrc_e := ⟨_, _, rfl, rfl⟩
theorem rrc_h : Statement Instr.rrc_h := ⟨_, _, rfl, rfl⟩
theorem rrc_l : Statement Instr.rrc_l := ⟨_, _, rfl, rfl⟩
theorem rrc_atHL : Statement Instr.rrc_atHL := ⟨_, _, rfl, rfl⟩
theorem rrc_a : Statement Instr.rrc_a := ⟨_, _, rfl, rfl⟩
theorem rl_b : Statement Instr.rl_b := ⟨_, _, rfl, rfl⟩
theorem rl_c : Statement Instr.rl_c := ⟨_, _, rfl, rfl⟩
theorem rl_d : Statement Instr.rl_d := ⟨_, _, rfl, rfl⟩
theorem rl_e : Statement Instr.rl_e := ⟨_, _, rfl, rfl⟩
theorem rl_h : Statement Instr.rl_h := ⟨_, _, rfl, rfl⟩
theorem rl_l : Statement Instr.rl_l := ⟨_, _, rfl, rfl⟩
theorem rl_atHL : Statement Instr.rl_atHL := ⟨_, _, rfl, rfl⟩
theorem rl_a : Statement Instr.rl_a := ⟨_, _, rfl, rfl⟩
theorem rr_b : Statement Instr.rr_b := ⟨_, _, rfl, rfl⟩
theorem rr_c : Statement Instr.rr_c := ⟨_, _, rfl, rfl⟩
theorem rr_d : Statement Instr.rr_d := ⟨_, _, rfl, rfl⟩
theorem rr_e : Statement Instr.rr_e := ⟨_, _, rfl, rfl⟩
theorem rr_h : Statement Instr.rr_h := ⟨_, _, rfl, rfl⟩
theorem rr_l : Statement Instr.rr_l := ⟨_, _, rfl, rfl⟩
theorem rr_atHL : Statement Instr.rr_atHL := ⟨_, _, rfl, rfl⟩
theorem rr_a : Statement Instr.rr_a := ⟨_, _, rfl, rfl⟩
theorem sla_b : Statement Instr.sla_b := ⟨_, _, rfl, rfl⟩
theorem sla_c : Statement Instr.sla_c := ⟨_, _, rfl, rfl⟩
theorem sla_d : Statement Instr.sla_d := ⟨_, _, rfl, rfl⟩
theorem sla_e : Statement Instr.sla_e := ⟨_, _, rfl, rfl⟩
theorem sla_h : Statement Instr.sla_h := ⟨_, _, rfl, rfl⟩
theorem sla_l : Statement Instr.sla_l := ⟨_, _, rfl, rfl⟩
theorem sla_atHL : Statement Instr.sla_atHL := ⟨_, _, rfl, rfl⟩
theorem sla_a : Statement Instr.sla_a := ⟨_, _, rfl, rfl⟩
theorem sra_b : Statement Instr.sra_b := ⟨_, _, rfl, rfl⟩
theorem sra_c : Statement Instr.sra_c := ⟨_, _, rfl, rfl⟩
theorem sra_d : Statement Instr.sra_d := ⟨_, _, rfl, rfl⟩
theorem sra_e : Statement Instr.sra_e := ⟨_, _, rfl, rfl⟩
theorem sra_h : Statement Instr.sra_h := ⟨_, _, rfl, rfl⟩
theorem sra_l : Statement Instr.sra_l := ⟨_, _, rfl, rfl⟩
theorem sra_atHL : Statement Instr.sra_atHL := ⟨_, _, rfl, rfl⟩
theorem sra_a : Statement Instr.sra_a := ⟨_, _, rfl, rfl⟩
theorem swap_b : Statement Instr.swap_b := ⟨_, _, rfl, rfl⟩
theorem swap_c : Statement Instr.swap_c := ⟨_, _, rfl, rfl⟩
theorem swap_d : Statement Instr.swap_d := ⟨_, _, rfl, rfl⟩
theorem swap_e : Statement Instr.swap_e := ⟨_, _, rfl, rfl⟩
theorem swap_h : Statement Instr.swap_h := ⟨_, _, rfl, rfl⟩
theorem swap_l : Statement Instr.swap_l := ⟨_, _, rfl, rfl⟩
theorem swap_atHL : Statement Instr.swap_atHL := ⟨_, _, rfl, rfl⟩
theorem swap_a : Statement Instr.swap_a := ⟨_, _, rfl, rfl⟩
theorem srl_b : Statement Instr.srl_b := ⟨_, _, rfl, rfl⟩
theorem srl_c : Statement Instr.srl_c := ⟨_, _, rfl, rfl⟩
theorem srl_d : Statement Instr.srl_d := ⟨_, _, rfl, rfl⟩
theorem srl_e : Statement Instr.srl_e := ⟨_, _, rfl, rfl⟩
theorem srl_h : Statement Instr.srl_h := ⟨_, _, rfl, rfl⟩
theorem srl_l : Statement Instr.srl_l := ⟨_, _, rfl, rfl⟩
theorem srl_atHL : Statement Instr.srl_atHL := ⟨_, _, rfl, rfl⟩
theorem srl_a : Statement Instr.srl_a := ⟨_, _, rfl, rfl⟩
theorem bit_0_b : Statement Instr.bit_0_b := ⟨_, _, rfl, rfl⟩
theorem bit_0_c : Statement Instr.bit_0_c := ⟨_, _, rfl, rfl⟩
theorem bit_0_d : Statement Instr.bit_0_d := ⟨_, _, rfl, rfl⟩
theorem bit_0_e : Statement Instr.bit_0_e := ⟨_, _, rfl, rfl⟩
theorem bit_0_h : Statement Instr.bit_0_h := ⟨_, _, rfl, rfl⟩
theorem bit_0_l : Statement Instr.bit_0_l := ⟨_, _, rfl, rfl⟩
theorem bit_0_atHL : Statement Instr.bit_0_atHL := ⟨_, _, rfl, rfl⟩
theorem bit_0_a : Statement Instr.bit_0_a := ⟨_, _, rfl, rfl⟩
theorem bit_1_b : Statement Instr.bit_1_b := ⟨_, _, rfl, rfl⟩
theorem bit_1_c : Statement Instr.bit_1_c := ⟨_, _, rfl, rfl⟩
theorem bit_1_d : Statement Instr.bit_1_d := ⟨_, _, rfl, rfl⟩
theorem bit_1_e : Statement Instr.bit_1_e := ⟨_, _, rfl, rfl⟩
theorem bit_1_h : Statement Instr.bit_1_h := ⟨_, _, rfl, rfl⟩
theorem bit_1_l : Statement Instr.bit_1_l := ⟨_, _, rfl, rfl⟩
theorem bit_1_atHL : Statement Instr.bit_1_atHL := ⟨_, _, rfl, rfl⟩
theorem bit_1_a : Statement Instr.bit_1_a := ⟨_, _, rfl, rfl⟩
theorem bit_2_b : Statement Instr.bit_2_b := ⟨_, _, rfl, rfl⟩
theorem bit_2_c : Statement Instr.bit_2_c := ⟨_, _, rfl, rfl⟩
theorem bit_2_d : Statement Instr.bit_2_d := ⟨_, _, rfl, rfl⟩
theorem bit_2_e : Statement Instr.bit_2_e := ⟨_, _, rfl, rfl⟩
theorem bit_2_h : Statement Instr.bit_2_h := ⟨_, _, rfl, rfl⟩
theorem bit_2_l : Statement Instr.bit_2_l := ⟨_, _, rfl, rfl⟩
theorem bit_2_atHL : Statement Instr.bit_2_atHL := ⟨_, _, rfl, rfl⟩
theorem bit_2_a : Statement Instr.bit_2_a := ⟨_, _, rfl, rfl⟩
theorem bit_3_b : Statement Instr.bit_3_b := ⟨_, _, rfl, rfl⟩
theorem bit_3_c : Statement Instr.bit_3_c := ⟨_, _, rfl, rfl⟩
theorem bit_3_d : Statement Instr.bit_3_d := ⟨_, _, rfl, rfl⟩
theorem bit_3_e : Statement Instr.bit_3_e := ⟨_, _, rfl, rfl⟩
theorem bit_3_h : Statement Instr.bit_3_h := ⟨_, _, rfl, rfl⟩
theorem bit_3_l : Statement Instr.bit_3_l := ⟨_, _, rfl, rfl⟩
theorem bit_3_atHL : Statement Instr.bit_3_atHL := ⟨_, _, rfl, rfl⟩
theorem bit_3_a : Statement Instr.bit_3_a := ⟨_, _, rfl, rfl⟩
theorem bit_4_b : Statement Instr.bit_4_b := ⟨_, _, rfl, rfl⟩
theorem bit_4_c : Statement Instr.bit_4_c := ⟨_, _, rfl, rfl⟩
theorem bit_4_d : Statement Instr.bit_4_d := ⟨_, _, rfl, rfl⟩
theorem bit_4_e : Statement Instr.bit_4_e := ⟨_, _, rfl, rfl⟩
theorem bit_4_h : Statement Instr.bit_4_h := ⟨_, _, rfl, rfl⟩
theorem bit_4_l : Statement Instr.bit_4_l := ⟨_, _, rfl, rfl⟩
theorem bit_4_atHL : Statement Instr.bit_4_atHL := ⟨_, _, rfl, rfl⟩
theorem bit_4_a : Statement Instr.bit_4_a := ⟨_, _, rfl, rfl⟩
theorem bit_5_b : Statement Instr.bit_5_b := ⟨_, _, rfl, rfl⟩
theorem bit_5_c : Statement Instr.bit_5_c := ⟨_, _, rfl, rfl⟩
theorem bit_5_d : Statement Instr.bit_5_d := ⟨_, _, rfl, rfl⟩
theorem bit_5_e : Statement Instr.bit_5_e := ⟨_, _, rfl, rfl⟩
theorem bit_5_h : Statement Instr.bit_5_h := ⟨_, _, rfl, rfl⟩
theorem bit_5_l : Statement Instr.bit_5_l := ⟨_, _, rfl, rfl⟩
theorem bit_5_atHL : Statement Instr.bit_5_atHL := ⟨_, _, rfl, rfl⟩
theorem bit_5_a : Statement Instr.bit_5_a := ⟨_, _, rfl, rfl⟩
theorem bit_6_b : Statement Instr.bit_6_b := ⟨_, _, rfl, rfl⟩
theorem bit_6_c : Statement Instr.bit_6_c := ⟨_, _, rfl, rfl⟩
theorem bit_6_d : Statement Instr.bit_6_d := ⟨_, _, rfl, rfl⟩
theorem bit_6_e : Statement Instr.bit_6_e := ⟨_, _, rfl, rfl⟩
theorem bit_6_h : Statement Instr.bit_6_h := ⟨_, _, rfl, rfl⟩
theorem bit_6_l : Statement Instr.bit_6_l := ⟨_, _, rfl, rfl⟩
theorem bit_6_atHL : Statement Instr.bit_6_atHL := ⟨_, _, rfl, rfl⟩
theorem bit_6_a : Statement Instr.bit_6_a := ⟨_, _, rfl, rfl⟩
theorem bit_7_b : Statement Instr.bit_7_b := ⟨_, _, rfl, rfl⟩
theorem bit_7_c : Statement Instr.bit_7_c := ⟨_, _, rfl, rfl⟩
theorem bit_7_d : Statement Instr.bit_7_d := ⟨_, _, rfl, rfl⟩
theorem bit_7_e : Statement Instr.bit_7_e := ⟨_, _, rfl, rfl⟩
theorem bit_7_h : Statement Instr.bit_7_h := ⟨_, _, rfl, rfl⟩
theorem bit_7_l : Statement Instr.bit_7_l := ⟨_, _, rfl, rfl⟩
theorem bit_7_atHL : Statement Instr.bit_7_atHL := ⟨_, _, rfl, rfl⟩
theorem bit_7_a : Statement Instr.bit_7_a := ⟨_, _, rfl, rfl⟩
theorem res_0_b : Statement Instr.res_0_b := ⟨_, _, rfl, rfl⟩
theorem res_0_c : Statement Instr.res_0_c := ⟨_, _, rfl, rfl⟩
theorem res_0_d : Statement Instr.res_0_d := ⟨_, _, rfl, rfl⟩
theorem res_0_e : Statement Instr.res_0_e := ⟨_, _, rfl, rfl⟩
theorem res_0_h : Statement Instr.res_0_h := ⟨_, _, rfl, rfl⟩
theorem res_0_l : Statement Instr.res_0_l := ⟨_, _, rfl, rfl⟩
theorem res_0_atHL : Statement Instr.res_0_atHL := ⟨_, _, rfl, rfl⟩
theorem res_0_a : Statement Instr.res_0_a := ⟨_, _, rfl, rfl⟩
theorem res_1_b : Statement Instr.res_1_b := ⟨_, _, rfl, rfl⟩
theorem res_1_c : Statement Instr.res_1_c := ⟨_, _, rfl, rfl⟩
theorem res_1_d : Statement Instr.res_1_d := ⟨_, _, rfl, rfl⟩
theorem res_1_e : Statement Instr.res_1_e := ⟨_, _, rfl, rfl⟩
theorem res_1_h : Statement Instr.res_1_h := ⟨_, _, rfl, rfl⟩
theorem res_1_l : Statement Instr.res_1_l := ⟨_, _, rfl, rfl⟩
theorem res_1_atHL : Statement Instr.res_1_atHL := ⟨_, _, rfl, rfl⟩
theorem res_1_a : Statement Instr.res_1_a := ⟨_, _, rfl, rfl⟩
theorem res_2_b : Statement Instr.res_2_b := ⟨_, _, rfl, rfl⟩
theorem res_2_c : Statement Instr.res_2_c := ⟨_, _, rfl, rfl⟩
theorem res_2_d : Statement Instr.res_2_d := ⟨_, _, rfl, rfl⟩
theorem res_2_e : Statement Instr.res_2_e := ⟨_, _, rfl, rfl⟩
theorem res_2_h : Statement Instr.res_2_h := ⟨_, _, rfl, rfl⟩
theorem res_2_l : Statement Instr.res_2_l := ⟨_, _, rfl, rfl⟩
theorem res_2_atHL : Statement Instr.res_2_atHL := ⟨_, _, rfl, rfl⟩
theorem res_2_a : Statement Instr.res_2_a := ⟨_, _, rfl, rfl⟩
theorem res_3_b : Statement Instr.res_3_b := ⟨_, _, rfl, rfl⟩
theorem res_3_c : Statement Instr.res_3_c := ⟨_, _, rfl, rfl⟩
theorem res_3_d : Statement Instr.res_3_d := ⟨_, _, rfl, rfl⟩
theorem res_3_e : Statement Instr.res_3_e := ⟨_, _, rfl, rfl⟩
theorem res_3_h : Statement Instr.res_3_h := ⟨_, _, rfl, rfl⟩
theorem res_3_l : Statement Instr.res_3_l := ⟨_, _, rfl, rfl⟩
theorem res_3_atHL : Statement Instr.res_3_atHL := ⟨_, _, rfl, rfl⟩
theorem res_3_a : Statement Instr.res_3_a := ⟨_, _, rfl, rfl⟩
theorem res_4_b : Statement Instr.res_4_b := ⟨_, _, rfl, rfl⟩
theorem res_4_c : Statement Instr.res_4_c := ⟨_, _, rfl, rfl⟩
theorem res_4_d : Statement Instr.res_4_d := ⟨_, _, rfl, rfl⟩
theorem res_4_e : Statement Instr.res_4_e := ⟨_, _, rfl, rfl⟩
theorem res_4_h : Statement Instr.res_4_h := ⟨_, _, rfl, rfl⟩
theorem res_4_l : Statement Instr.res_4_l := ⟨_, _, rfl, rfl⟩
theorem res_4_atHL : Statement Instr.res_4_atHL := ⟨_, _, rfl, rfl⟩
theorem res_4_a : Statement Instr.res_4_a := ⟨_, _, rfl, rfl⟩
theorem res_5_b : Statement Instr.res_5_b := ⟨_, _, rfl, rfl⟩
theorem res_5_c : Statement Instr.res_5_c := ⟨_, _, rfl, rfl⟩
theorem res_5_d : Statement Instr.res_5_d := ⟨_, _, rfl, rfl⟩
theorem res_5_e : Statement Instr.res_5_e := ⟨_, _, rfl, rfl⟩
theorem res_5_h : Statement Instr.res_5_h := ⟨_, _, rfl, rfl⟩
theorem res_5_l : Statement Instr.res_5_l := ⟨_, _, rfl, rfl⟩
theorem res_5_atHL : Statement Instr.res_5_atHL := ⟨_, _, rfl, rfl⟩
theorem res_5_a : Statement Instr.res_5_a := ⟨_, _, rfl, rfl⟩
theorem res_6_b : Statement Instr.res_6_b := ⟨_, _, rfl, rfl⟩
theorem res_6_c : Statement Instr.res_6_c := ⟨_, _, rfl, rfl⟩
theorem res_6_d : Statement Instr.res_6_d := ⟨_, _, rfl, rfl⟩
theorem res_6_e : Statement Instr.res_6_e := ⟨_, _, rfl, rfl⟩
theorem res_6_h : Statement Instr.res_6_h := ⟨_, _, rfl, rfl⟩
theorem res_6_l : Statement Instr.res_6_l := ⟨_, _, rfl, rfl⟩
theorem res_6_atHL : Statement Instr.res_6_atHL := ⟨_, _, rfl, rfl⟩
theorem res_6_a : Statement Instr.res_6_a := ⟨_, _, rfl, rfl⟩
theorem res_7_b : Statement Instr.res_7_b := ⟨_, _, rfl, rfl⟩
theorem res_7_c : Statement Instr.res_7_c := ⟨_, _, rfl, rfl⟩
theorem res_7_d : Statement Instr.res_7_d := ⟨_, _, rfl, rfl⟩
theorem res_7_e : Statement Instr.res_7_e := ⟨_, _, rfl, rfl⟩
theorem res_7_h : Statement Instr.res_7_h := ⟨_, _, rfl, rfl⟩
theorem res_7_l : Statement Instr.res_7_l := ⟨_, _, rfl, rfl⟩
theorem res_7_atHL : Statement Instr.res_7_atHL := ⟨_, _, rfl, rfl⟩
theorem res_7_a : Statement Instr.res_7_a := ⟨_, _, rfl, rfl⟩
theorem set_0_b : Statement Instr.set_0_b := ⟨_, _, rfl, rfl⟩
theorem set_0_c : Statement Instr.set_0_c := ⟨_, _, rfl, rfl⟩
theorem set_0_d : Statement Instr.set_0_d := ⟨_, _, rfl, rfl⟩
theorem set_0_e : Statement Instr.set_0_e := ⟨_, _, rfl, rfl⟩
theorem set_0_h : Statement Instr.set_0_h := ⟨_, _, rfl, rfl⟩
theorem set_0_l : Statement Instr.set_0_l := ⟨_, _, rfl, rfl⟩
theorem set_0_atHL : Statement Instr.set_0_atHL := ⟨_, _, rfl, rfl⟩
theorem set_0_a : Statement Instr.set_0_a := ⟨_, _, rfl, rfl⟩
theorem set_1_b : Statement Instr.set_1_b := ⟨_, _, rfl, rfl⟩
theorem set_1_c : Statement Instr.set_1_c := ⟨_, _, rfl, rfl⟩
theorem set_1_d : Statement Instr.set_1_d := ⟨_, _, rfl, rfl⟩
theorem set_1_e : Statement Instr.set_1_e := ⟨_, _, rfl, rfl⟩
theorem set_1_h : Statement Instr.set_1_h := ⟨_, _, rfl, rfl⟩
theorem set_1_l : Statement Instr.set_1_l := ⟨_, _, rfl, rfl⟩
theorem set_1_atHL : Statement Instr.set_1_atHL := ⟨_, _, rfl, rfl⟩
theorem set_1_a : Statement Instr.set_1_a := ⟨_, _, rfl, rfl⟩
theorem set_2_b : Statement Instr.set_2_b := ⟨_, _, rfl, rfl⟩
theorem set_2_c : Statement Instr.set_2_c := ⟨_, _, rfl, rfl⟩
theorem set_2_d : Statement Instr.set_2_d := ⟨_, _, rfl, rfl⟩
theorem set_2_e : Statement Instr.set_2_e := ⟨_, _, rfl, rfl⟩
theorem set_2_h : Statement Instr.set_2_h := ⟨_, _, rfl, rfl⟩
theorem set_2_l : Statement Instr.set_2_l := ⟨_, _, rfl, rfl⟩
theorem set_2_atHL : Statement Instr.set_2_atHL := ⟨_, _, rfl, rfl⟩
theorem set_2_a : Statement Instr.set_2_a := ⟨_, _, rfl, rfl⟩
theorem set_3_b : Statement Instr.set_3_b := ⟨_, _, rfl, rfl⟩
theorem set_3_c : Statement Instr.set_3_c := ⟨_, _, rfl, rfl⟩
theorem set_3_d : Statement Instr.set_3_d := ⟨_, _, rfl, rfl⟩
theorem set_3_e : Statement Instr.set_3_e := ⟨_, _, rfl, rfl⟩
theorem set_3_h : Statement Instr.set_3_h := ⟨_, _, rfl, rfl⟩
theorem set_3_l : Statement Instr.set_3_l := ⟨_, _, rfl, rfl⟩
theorem set_3_atHL : Statement Instr.set_3_atHL := ⟨_, _, rfl, rfl⟩
theorem set_3_a : Statement Instr.set_3_a := ⟨_, _, rfl, rfl⟩
theorem set_4_b : Statement Instr.set_4_b := ⟨_, _, rfl, rfl⟩
theorem set_4_c : Statement Instr.set_4_c := ⟨_, _, rfl, rfl⟩
theorem set_4_d : Statement Instr.set_4_d := ⟨_, _, rfl, rfl⟩
theorem set_4_e : Statement Instr.set_4_e := ⟨_, _, rfl, rfl⟩
theorem set_4_h : Statement Instr.set_4_h := ⟨_, _, rfl, rfl⟩
theorem set_4_l : Statement Instr.set_4_l := ⟨_, _, rfl, rfl⟩
theorem set_4_atHL : Statement Instr.set_4_atHL := ⟨_, _, rfl, rfl⟩
theorem set_4_a : Statement Instr.set_4_a := ⟨_, _, rfl, rfl⟩
theorem set_5_b : Statement Instr.set_5_b := ⟨_, _, rfl, rfl⟩
theorem set_5_c : Statement Instr.set_5_c := ⟨_, _, rfl, rfl⟩
theorem set_5_d : Statement Instr.set_5_d := ⟨_, _, rfl, rfl⟩
theorem set_5_e : Statement Instr.set_5_e := ⟨_, _, rfl, rfl⟩
theorem set_5_h : Statement Instr.set_5_h := ⟨_, _, rfl, rfl⟩
theorem set_5_l : Statement Instr.set_5_l := ⟨_, _, rfl, rfl⟩
theorem set_5_atHL : Statement Instr.set_5_atHL := ⟨_, _, rfl, rfl⟩
theorem set_5_a : Statement Instr.set_5_a := ⟨_, _, rfl, rfl⟩
theorem set_6_b : Statement Instr.set_6_b := ⟨_, _, rfl, rfl⟩
theorem set_6_c : Statement Instr.set_6_c := ⟨_, _, rfl, rfl⟩
theorem set_6_d : Statement Instr.set_6_d := ⟨_, _, rfl, rfl⟩
theorem set_6_e : Statement Instr.set_6_e := ⟨_, _, rfl, rfl⟩
theorem set_6_h : Statement Instr.set_6_h := ⟨_, _, rfl, rfl⟩
theorem set_6_l : Statement Instr.set_6_l := ⟨_, _, rfl, rfl⟩
theorem set_6_atHL : Statement Instr.set_6_atHL := ⟨_, _, rfl, rfl⟩
theorem set_6_a : Statement Instr.set_6_a := ⟨_, _, rfl, rfl⟩
theorem set_7_b : Statement Instr.set_7_b := ⟨_, _, rfl, rfl⟩
theorem set_7_c : Statement Instr.set_7_c := ⟨_, _, rfl, rfl⟩
theorem set_7_d : Statement Instr.set_7_d := ⟨_, _, rfl, rfl⟩
theorem set_7_e : Statement Instr.set_7_e := ⟨_, _, rfl, rfl⟩
theorem set_7_h : Statement Instr.set_7_h := ⟨_, _, rfl, rfl⟩
theorem set_7_l : Statement Instr.set_7_l := ⟨_, _, rfl, rfl⟩
theorem set_7_atHL : Statement Instr.set_7_atHL := ⟨_, _, rfl, rfl⟩
theorem set_7_a : Statement Instr.set_7_a := ⟨_, _, rfl, rfl⟩

end Sys2Proof.Laws.EncodingLength
end

