-- ==== Sys2Proof/Laws/Ppu.lean ====
section
/-! SUPPORT. The ticks of the PPU: one equation per state and outcome, and what no tick touches (spec R300 to R306, R331). -/

namespace Sys2Proof.Machine

theorem Ppu.fetcherTick_count {u : Ppu} (m : Memory) (h : u.fticks + 1 < 2) :
    u.fetcherTick m = { u with fticks := u.fticks + 1 } := if_pos h

theorem Ppu.fetcherTick_step {u : Ppu} (m : Memory) (h : ¬ u.fticks + 1 < 2) :
    u.fetcherTick m = Ppu.fetcherStep { u with fticks := 0 } m := if_neg h

theorem ppuTick_objectSearch {s : State} (h : s.ppu.mode = .objectSearch) :
    ppuTick s = { s with ppu := Ppu.objectSearchTick { s.ppu with ticks := s.ppu.ticks + 1 } } := by
  simp only [ppuTick, h]

theorem ppuTick_pixelTransfer {s : State} (h : s.ppu.mode = .pixelTransfer) :
    ppuTick s = { s with ppu := Ppu.pixelTransferTick { s.ppu with ticks := s.ppu.ticks + 1 } s.mem } := by
  simp only [ppuTick, h]

theorem ppuTick_hBlank {s : State} (h : s.ppu.mode = .hBlank) :
    ppuTick s = hBlankTick s { s.ppu with ticks := s.ppu.ticks + 1 } := by
  simp only [ppuTick, h]

theorem ppuTick_vBlank {s : State} (h : s.ppu.mode = .vBlank) :
    ppuTick s = vBlankTick s { s.ppu with ticks := s.ppu.ticks + 1 } := by
  simp only [ppuTick, h]

theorem hBlankTick_count {s : State} {u : Ppu} (h : u.ticks ≠ 456) : hBlankTick s u = { s with ppu := u } := if_neg h

theorem vBlankTick_count {s : State} {u : Ppu} (h : u.ticks ≠ 456) : vBlankTick s u = { s with ppu := u } := if_neg h

theorem hBlankTick_mem (s : State) (u : Ppu) :
    (hBlankTick s u).mem = s.mem ∨ ∃ v, (hBlankTick s u).mem = s.mem.write Config.lyAddr.toNat v := by
  by_cases h : u.ticks = Config.lineTicks
  · exact .inr ⟨_, by rw [hBlankTick, if_pos h]; rfl⟩
  · exact .inl (by rw [hBlankTick, if_neg h])

theorem vBlankTick_mem (s : State) (u : Ppu) :
    (vBlankTick s u).mem = s.mem ∨ ∃ v, (vBlankTick s u).mem = s.mem.write Config.lyAddr.toNat v := by
  by_cases h : u.ticks = Config.lineTicks
  · exact .inr ⟨_, by rw [vBlankTick, if_pos h]; rfl⟩
  · exact .inl (by rw [vBlankTick, if_neg h])

/-- A tick writes at most one byte of memory, the current-line register (R73, R305). -/
theorem ppuTick_mem (s : State) : (ppuTick s).mem = s.mem ∨ ∃ v, (ppuTick s).mem = s.mem.write Config.lyAddr.toNat v := by
  cases h : s.ppu.mode with
  | objectSearch => exact .inl (by rw [ppuTick_objectSearch h])
  | pixelTransfer => exact .inl (by rw [ppuTick_pixelTransfer h])
  | hBlank => rw [ppuTick_hBlank h]; exact hBlankTick_mem s _
  | vBlank => rw [ppuTick_vBlank h]; exact vBlankTick_mem s _

/-- A tick keeps the canonical form of memory. -/
theorem wf_ppuTick (s : State) (h : s.mem.wf = true) : (ppuTick s).mem.wf = true := by
  rcases ppuTick_mem s with hm | ⟨v, hm⟩
  · rwa [hm]
  · rw [hm]
    exact Memory.wf_write _ _ _ h (by decide)

/-! ### The FIFO -/

theorem Ppu.fifoPush_room {u : Ppu} (p : Pixel) (h : u.fifo.length < 16) :
    u.fifoPush p = { u with fifo := u.fifo ++ [p] } := if_pos h

theorem Ppu.fifoPush_full {u : Ppu} (p : Pixel) (h : ¬ u.fifo.length < 16) :
    u.fifoPush p = { u with violations := u.violations + 1 } := if_neg h

@[simp] theorem PixelRow.length_toList (r : PixelRow) : r.toList.length = 8 := rfl

@[simp] theorem ppuTicks_zero (s : State) : ppuTicks 0 s = s := rfl

@[simp] theorem ppuTicks_succ (n : Nat) (s : State) : ppuTicks (n + 1) s = ppuTicks n (ppuTick s) := rfl

theorem ppuTicks_add (m n : Nat) (s : State) : ppuTicks (m + n) s = ppuTicks n (ppuTicks m s) := by
  induction m generalizing s with
  | zero => simp
  | succ m ih => simpa [Nat.add_right_comm] using ih (ppuTick s)

end Sys2Proof.Machine
end

