-- ==== Sys2Proof/Laws/Step.lean ====
section
/-! SUPPORT. What a step can do, said once (spec R90, R363, R393). -/

namespace Sys2Proof.Machine

theorem cpuStep_running {s : State} (h : s.status = .running) : cpuStep s = exec (fetch s) s := by
  simp only [cpuStep, h]

theorem cpuStep_faulted {s : State} {table : OpcodeTable} {op : Byte} {pc : Word} (h : s.status = .faulted table op pc) :
    cpuStep s = .fault (.runEnded table op pc) := by
  simp only [cpuStep, h]

theorem driveTicks_running {s : State} (h : s.status = .running) : driveTicks s = ppuTick s := by
  simp only [driveTicks, h]
  rfl

theorem driveTicks_faulted {s : State} {table : OpcodeTable} {op : Byte} {pc : Word}
    (h : s.status = .faulted table op pc) : driveTicks s = s := by
  simp only [driveTicks, h]

/-- After the CPU's transition the driver runs one tick, or none if the core has faulted. -/
theorem driveTicks_cases (s : State) : driveTicks s = ppuTick s ∨ driveTicks s = s := by
  cases h : s.status with
  | running => exact .inl (driveTicks_running h)
  | faulted table op pc => exact .inr (driveTicks_faulted h)

/-- A step of a running core is the instruction, then the driver's ticks. -/
theorem step_running {s t : State} (h : s.status = .running) (he : exec (fetch s) s = .next t) :
    step s = .next (driveTicks t) := by
  simp only [step, cpuStep_running h, he]

/-- A faulted core performs nothing (R34, R363). -/
theorem step_faulted {s : State} {table : OpcodeTable} {op : Byte} {pc : Word} (h : s.status = .faulted table op pc) :
    step s = .fault (.runEnded table op pc) := by
  simp only [step, cpuStep_faulted h]

/-- A step that answers a next state ran the instruction at `PC` of a running core, then the driver's ticks. -/
theorem step_next {s t : State} (h : step s = .next t) :
    s.status = .running ∧ ∃ u, exec (fetch s) s = .next u ∧ t = driveTicks u := by
  cases hs : s.status with
  | faulted table op pc => simp [step, cpuStep_faulted hs] at h
  | running =>
    simp only [step, cpuStep_running hs] at h
    split at h <;> simp_all

end Sys2Proof.Machine
end

