-- ==== Sys2Proof/Machine/Cycles.lean ====
section
/-! DEFINITION. The informative cycle table (spec R397): durations of the reference instruction set in clock ticks. From
general knowledge, checked against no source (D24), and nothing in the model reads it (log 22). UNVERIFIED. -/

namespace Sys2Proof.Machine

/-- Ticks of an instruction when its condition holds and when it does not; the same number twice for an unconditional one. -/
structure Cycles where
  taken : Nat
  notTaken : Nat
  deriving DecidableEq, Repr

/-- One row of the main table, first bytes `16*hi` to `16*hi+15`: the ticks (of a conditional transfer, those when it is
taken); 0 stands for the prefix and the unhandled bytes, which have no entry. -/
def cyclesRow (hi : Nat) : List Nat :=
  match hi with
  | 0 => [4, 12, 8, 8, 4, 4, 8, 4, 20, 8, 8, 8, 4, 4, 8, 4]
  | 1 => [0, 12, 8, 8, 4, 4, 8, 4, 12, 8, 8, 8, 4, 4, 8, 4]
  | 2 => [12, 12, 8, 8, 4, 4, 8, 4, 12, 8, 8, 8, 4, 4, 8, 4]
  | 3 => [12, 12, 8, 8, 12, 12, 12, 4, 12, 8, 8, 8, 4, 4, 8, 4]
  | 4 => [4, 4, 4, 4, 4, 4, 8, 4, 4, 4, 4, 4, 4, 4, 8, 4]
  | 5 => [4, 4, 4, 4, 4, 4, 8, 4, 4, 4, 4, 4, 4, 4, 8, 4]
  | 6 => [4, 4, 4, 4, 4, 4, 8, 4, 4, 4, 4, 4, 4, 4, 8, 4]
  | 7 => [8, 8, 8, 8, 8, 8, 0, 8, 4, 4, 4, 4, 4, 4, 8, 4]
  | 8 => [4, 4, 4, 4, 4, 4, 8, 4, 4, 4, 4, 4, 4, 4, 8, 4]
  | 9 => [4, 4, 4, 4, 4, 4, 8, 4, 4, 4, 4, 4, 4, 4, 8, 4]
  | 10 => [4, 4, 4, 4, 4, 4, 8, 4, 4, 4, 4, 4, 4, 4, 8, 4]
  | 11 => [4, 4, 4, 4, 4, 4, 8, 4, 4, 4, 4, 4, 4, 4, 8, 4]
  | 12 => [20, 12, 16, 16, 24, 16, 8, 16, 20, 16, 16, 0, 24, 24, 8, 16]
  | 13 => [20, 12, 16, 0, 24, 16, 8, 16, 20, 0, 16, 0, 24, 0, 8, 16]
  | 14 => [12, 12, 8, 0, 0, 16, 8, 16, 16, 4, 16, 0, 0, 0, 8, 16]
  | _ => [12, 12, 8, 0, 0, 16, 8, 16, 12, 8, 16, 0, 0, 0, 8, 16]

/-- Ticks of an extended-table instruction. -/
def extendedCycles (op2 : Byte) : Nat :=
  if op2.toNat % 8 = 6 then (if op2.toNat / 64 = 1 then 12 else 16) else 8

/-- Ticks of a conditional transfer that is not taken. -/
def cyclesNotTaken (op : Byte) : Option Nat :=
  if [0x20#8, 0x28#8, 0x30#8, 0x38#8, 0xC0#8, 0xC8#8, 0xD0#8, 0xD8#8].contains op then some 8
  else if [0xC2#8, 0xC4#8, 0xCA#8, 0xCC#8, 0xD2#8, 0xD4#8, 0xDA#8, 0xDC#8].contains op then some 12
  else none

/-- The table's entry for an instruction; none for an unhandled byte. -/
def cyclesOf (i : Instr) : Option Cycles :=
  match encode i with
  | [] => none
  | op :: rest =>
    match op == Config.prefixByte, rest with
    | true, op2 :: _ => some ⟨extendedCycles op2, extendedCycles op2⟩
    | _, _ =>
      match (cyclesRow (op.toNat / 16)).getD (op.toNat % 16) 0 with
      | 0 => none
      | n => some ⟨n, (cyclesNotTaken op).getD n⟩

end Sys2Proof.Machine
end

