-- ==== Sys2Proof/Tests/Slice0.lean ====
section
/-! SUPPORT. The model's own tests: the well-formedness smoke test, words written out from the spec's encodings, single steps
whose results are the spec's examples, and for every statement with hypotheses a witness that meets them. -/

namespace Sys2Proof.Tests

open Sys2Proof.Machine Sys2Proof.Claims

/-- A field of the next state, if there is one. -/
def after (r : Result) (view : State → α) : Option α :=
  match r with
  | .next t => some (view t)
  | .fault _ => none
  | .refused _ => none

/-- The reset state with some bytes put at `PC`. -/
def codeAt (pc : Word) (bytes : List Byte) : State := State.placeBytes { State.reset with pc := pc } pc bytes

/-! ### Well-formedness (R264) -/

theorem test_wf_refuses_bare_prefix : (Instr.prefixCB 0x7C#8).wf = false := by decide

theorem test_wf_accepts_extended : Instr.bit_7_h.wf = true := by decide

theorem test_wf_accepts_unhandled : Instr.unhandled_halt.wf = true := by decide

/-- The only check of `wf` is the prefix: a term that fails it is never decoded. -/
theorem test_prefix_alone_is_truncated : decode [0xCB#8] = .error (.truncated 0xCB#8) := by decide

theorem test_no_bytes : decode [] = .error .noBytes := by decide

theorem test_truncated_immediate : decode [0x31#8, 0xFE#8] = .error (.truncated 0x31#8) := by decide

/-! ### Decoding: words written out bit by bit from the formats of R91 and the fields of R98 and R105 -/

theorem test_decode_ld_r_r : decode [0b01001010#8] = .ok (Instr.ld_c_d, []) := by rfl

theorem test_decode_ld_r_d8 : decode [0b00111110#8, 0x80#8] = .ok ((Instr.ld_a_d8 0x80#8), []) := by rfl

theorem test_decode_ld_r_atHL : decode [0b01111110#8] = .ok (Instr.ld_a_atHL, []) := by rfl

theorem test_decode_ld_atHL_r : decode [0b01110111#8] = .ok (Instr.ld_atHL_a, []) := by rfl

theorem test_decode_ld_atHL_d8 : decode [0b00110110#8, 0x07#8] = .ok ((Instr.ld_atHL_d8 0x07#8), []) := by rfl

theorem test_decode_ld_a_atBC : decode [0b00001010#8] = .ok (Instr.ld_a_atBC, []) := by rfl

theorem test_decode_ld_atDE_a : decode [0b00010010#8] = .ok (Instr.ld_atDE_a, []) := by rfl

theorem test_decode_ld_a_at16 : decode [0b11111010#8, 0x34#8, 0xC2#8] = .ok ((Instr.ld_a_at16 0xC234#16), []) := by rfl

theorem test_decode_ldh_a_at8 : decode [0b11110000#8, 0x44#8] = .ok ((Instr.ldh_a_at8 0x44#8), []) := by rfl

theorem test_decode_ld_atC_a : decode [0b11100010#8] = .ok (Instr.ld_atC_a, []) := by rfl

theorem test_decode_ld_atHLD_a : decode [0b00110010#8] = .ok (Instr.ld_atHLD_a, []) := by rfl

theorem test_decode_ld_a_atHLI : decode [0b00101010#8] = .ok (Instr.ld_a_atHLI, []) := by rfl

theorem test_decode_ld_rr_d16 : decode [0b00100001#8, 0xFF#8, 0x9F#8] = .ok ((Instr.ld_hl_d16 0x9FFF#16), []) := by rfl

theorem test_decode_ld_at16_sp : decode [0b00001000#8, 0x00#8, 0xC1#8] = .ok ((Instr.ld_at16_sp 0xC100#16), []) := by rfl

theorem test_decode_ld_sp_hl : decode [0b11111001#8] = .ok (Instr.ld_sp_hl, []) := by rfl

theorem test_decode_push : decode [0b11010101#8] = .ok (Instr.push_de, []) := by rfl

theorem test_decode_pop : decode [0b11110001#8] = .ok (Instr.pop_af, []) := by rfl

theorem test_decode_ld_hl_sp_e8 : decode [0b11111000#8, 0x02#8] = .ok ((Instr.ld_hl_sp_e8 0x02#8), []) := by rfl

theorem test_decode_alu_r : decode [0b10011100#8] = .ok (Instr.sbc_a_h, []) := by rfl

theorem test_decode_alu_atHL : decode [0b10101110#8] = .ok (Instr.xor_atHL, []) := by rfl

theorem test_decode_alu_d8 : decode [0b11111110#8, 0x90#8] = .ok ((Instr.cp_d8 0x90#8), []) := by rfl

theorem test_decode_inc_r : decode [0b00101100#8] = .ok (Instr.inc_l, []) := by rfl

theorem test_decode_dec_atHL : decode [0b00110101#8] = .ok (Instr.dec_atHL, []) := by rfl

theorem test_decode_daa : decode [0b00100111#8] = .ok (Instr.daa, []) := by rfl

theorem test_decode_ccf : decode [0b00111111#8] = .ok (Instr.ccf, []) := by rfl

theorem test_decode_add_hl_rr : decode [0b00011001#8] = .ok (Instr.add_hl_de, []) := by rfl

theorem test_decode_inc_rr : decode [0b00110011#8] = .ok (Instr.inc_sp, []) := by rfl

theorem test_decode_dec_rr : decode [0b00001011#8] = .ok (Instr.dec_bc, []) := by rfl

theorem test_decode_add_sp_e8 : decode [0b11101000#8, 0x08#8] = .ok ((Instr.add_sp_e8 0x08#8), []) := by rfl

theorem test_decode_jp_a16 : decode [0b11000011#8, 0x50#8, 0x01#8] = .ok ((Instr.jp_a16 0x0150#16), []) := by rfl

theorem test_decode_jp_cc : decode [0b11011010#8, 0x00#8, 0x20#8] = .ok ((Instr.jp_c_a16 0x2000#16), []) := by rfl

theorem test_decode_jp_hl : decode [0b11101001#8] = .ok (Instr.jp_hl, []) := by rfl

theorem test_decode_jr_e8 : decode [0b00011000#8, 0xFE#8] = .ok ((Instr.jr_e8 0xFE#8), []) := by rfl

theorem test_decode_jr_cc : decode [0b00101000#8, 0x10#8] = .ok ((Instr.jr_z_e8 0x10#8), []) := by rfl

theorem test_decode_call : decode [0b11001101#8, 0x95#8, 0x00#8] = .ok ((Instr.call_a16 0x0095#16), []) := by rfl

theorem test_decode_call_cc : decode [0b11010100#8, 0x34#8, 0x12#8] = .ok ((Instr.call_nc_a16 0x1234#16), []) := by rfl

theorem test_decode_ret : decode [0b11001001#8] = .ok (Instr.ret, []) := by rfl

theorem test_decode_ret_cc : decode [0b11000000#8] = .ok (Instr.ret_nz, []) := by rfl

theorem test_decode_rst : decode [0b11111111#8] = .ok (Instr.rst_38, []) := by rfl

theorem test_decode_rla : decode [0b00010111#8] = .ok (Instr.rla, []) := by rfl

theorem test_decode_rot : decode [0xCB#8, 0b00110111#8] = .ok (Instr.swap_a, []) := by rfl

theorem test_decode_bit : decode [0xCB#8, 0b01111110#8] = .ok (Instr.bit_7_atHL, []) := by rfl

theorem test_decode_res : decode [0xCB#8, 0b10000111#8] = .ok (Instr.res_0_a, []) := by rfl

theorem test_decode_set : decode [0xCB#8, 0b11111110#8] = .ok (Instr.set_7_atHL, []) := by rfl

theorem test_decode_unhandled_halt : decode [0b01110110#8] = .ok (Instr.unhandled_halt, []) := by rfl

theorem test_decode_unhandled_FD : decode [0b11111101#8] = .ok (Instr.unhandled_FD, []) := by rfl

/-! ### The host's word numbering (log 7, log 9) -/

theorem test_table_word_extended : decodeTableWord 16 0xCB7C = some .bit_7_h := by rfl

theorem test_table_word_main : decodeTableWord 8 0x41 = some .ld_b_c := by rfl

theorem test_table_word_operand : decodeTableWord 24 0xFFFE31 = some (.ld_sp_d16 0xFFFE#16) := by rfl

theorem test_withFetchWord_fetches : fetch (State.reset.withFetchWord 16 0xCB7C) = .bit_7_h := by rfl

theorem test_withFetchWord_runs :
    after (step (State.reset.withFetchWord 8 0x3C)) (fun t => (t.a, t.pc, t.ppu.ticks)) = some (1#8, 1#16, 1) := by decide

/-! ### Single steps: the examples of the instruction rules -/

/-- R122: `H` is overwritten after the address is formed. -/
theorem test_ld_h_atHL :
    after (cpuStep { (State.writeByte (codeAt 0x0100#16 [0x66#8]) 0xC010#16 0x5A#8) with h := 0xC0#8, l := 0x10#8 }) (fun t => (t.h, t.l, t.pc)) = some (0x5A#8, 0x10#8, 0x0101#16) := by decide

/-- R123: `LD (HL),H` stores the high byte of its own address. -/
theorem test_ld_atHL_h :
    after (cpuStep { (codeAt 0x0100#16 [0x74#8]) with h := 0x80#8 }) (fun t => (t.readByte 0x8000#16, t.h)) = some (0x80#8, 0x80#8) := by decide

/-- R132. -/
theorem test_ldh_at8_a :
    after (cpuStep { (codeAt 0x0100#16 [0xE0#8, 0x47#8]) with a := 0xFC#8 }) (fun t => (t.readByte 0xFF47#16, t.pc)) = some (0xFC#8, 0x0102#16) := by decide

/-- R136: `HL = 0x0000` stores at 0x0000 and leaves `HL = 0xFFFF`. -/
theorem test_ld_atHLD_a_wraps :
    after (cpuStep { (codeAt 0x0100#16 [0x32#8]) with a := 0x77#8 }) (fun t => (t.readByte 0x0000#16, t.h, t.l)) = some (0x77#8, 0xFF#8, 0xFF#8) := by decide

/-- R137: `HL = 0xFFFF` reads 0xFFFF and leaves `HL = 0x0000`. -/
theorem test_ld_a_atHLI_wraps :
    after (cpuStep { (State.writeByte (codeAt 0x0100#16 [0x2A#8]) 0xFFFF#16 0x77#8) with h := 0xFF#8, l := 0xFF#8 }) (fun t => (t.a, t.h, t.l)) = some (0x77#8, 0x00#8, 0x00#8) := by decide

/-- R162: `a16 = 0xFFFF` writes the low byte to 0xFFFF and the high byte to 0x0000. -/
theorem test_ld_at16_sp_wraps :
    after (cpuStep { (codeAt 0x0100#16 [0x08#8, 0xFF#8, 0xFF#8]) with sp := 0x1234#16 }) (fun t => (t.readByte 0xFFFF#16, t.readByte 0x0000#16)) = some (0x34#8, 0x12#8) := by decide

/-- R166: a push at `SP = 0x0001` writes 0x0000 and 0xFFFF. -/
theorem test_push_wraps :
    after (cpuStep { (codeAt 0x0100#16 [0xC5#8]) with sp := 0x0001#16, b := 0x12#8, c := 0x34#8 }) (fun t => (t.readByte 0x0000#16, t.readByte 0xFFFF#16, t.sp)) = some (0x12#8, 0x34#8, 0xFFFF#16) := by decide

/-- R164: `POP AF` of the bytes 0xFF (low), 0x12 (high). -/
theorem test_pop_af_masks :
    after (cpuStep { (State.writeByte (State.writeByte (codeAt 0x0100#16 [0xF1#8]) 0xC000#16 0xFF#8) 0xC001#16 0x12#8) with sp := 0xC000#16 }) (fun t => (t.a, t.f, t.sp)) = some (0x12#8, 0xF0#8, 0xC002#16) := by decide

/-- R165: `SP = 0x0000`, `e8 = 0xFF`. -/
theorem test_ld_hl_sp_e8 :
    after (cpuStep { (codeAt 0x0100#16 [0xF8#8, 0xFF#8]) with f := 0xF0#8 }) (fun t => (t.h, t.l, t.f, t.sp)) = some (0xFF#8, 0xFF#8, 0x00#8, 0x0000#16) := by decide

/-- R181. -/
theorem test_add_a_b :
    after (cpuStep { (codeAt 0x0100#16 [0x80#8]) with a := 0x3A#8, b := 0xC6#8 }) (fun t => (t.a, t.f)) = some (0x00#8, 0xB0#8) := by decide

/-- R182: `A = 0x0F, v = 0x00, fC = 1`. -/
theorem test_adc_carry_in :
    after (cpuStep { (codeAt 0x0100#16 [0x88#8]) with a := 0x0F#8, f := 0x10#8 }) (fun t => (t.a, t.f)) = some (0x10#8, 0x20#8) := by decide

/-- R183: `A = 0x00, v = 0x01`. -/
theorem test_sub_borrow :
    after (cpuStep (codeAt 0x0100#16 [0xD6#8, 0x01#8])) (fun t => (t.a, t.f)) = some (0xFF#8, 0x70#8) := by decide

/-- R184: `A = 0x00, v = 0xFF, fC = 1`. -/
theorem test_sbc_full_borrow :
    after (cpuStep { (codeAt 0x0100#16 [0xDE#8, 0xFF#8]) with f := 0x10#8 }) (fun t => (t.a, t.f)) = some (0x00#8, 0xF0#8) := by decide

/-- R185. -/
theorem test_and_sets_half :
    after (cpuStep { (codeAt 0x0100#16 [0xA5#8]) with a := 0x5A#8, l := 0x3F#8 }) (fun t => (t.a, t.f)) = some (0x1A#8, 0x20#8) := by decide

/-- R188: `A = 0x3C, v = 0x40`. -/
theorem test_cp_keeps_a :
    after (cpuStep { (codeAt 0x0100#16 [0xFE#8, 0x40#8]) with a := 0x3C#8 }) (fun t => (t.a, t.f)) = some (0x3C#8, 0x50#8) := by decide

/-- R189: `B = 0x0F`, `F = 0x10`. -/
theorem test_inc_keeps_carry :
    after (cpuStep { (codeAt 0x0100#16 [0x04#8]) with b := 0x0F#8, f := 0x10#8 }) (fun t => (t.b, t.f)) = some (0x10#8, 0x30#8) := by decide

/-- R192. -/
theorem test_dec_atHL :
    after (cpuStep { (State.writeByte (codeAt 0x0100#16 [0x35#8]) 0xC000#16 0x01#8) with h := 0xC0#8, f := 0x10#8 }) (fun t => (t.readByte 0xC000#16, t.f)) = some (0x00#8, 0xD0#8) := by decide

/-- R193: `A = 0x9A, F = 0x00`. -/
theorem test_daa_high :
    after (cpuStep { (codeAt 0x0100#16 [0x27#8]) with a := 0x9A#8 }) (fun t => (t.a, t.f)) = some (0x00#8, 0x90#8) := by decide

/-- R193: `A = 0x4B, F = 0x60`. -/
theorem test_daa_subtract :
    after (cpuStep { (codeAt 0x0100#16 [0x27#8]) with a := 0x4B#8, f := 0x60#8 }) (fun t => (t.a, t.f)) = some (0x45#8, 0x40#8) := by decide

/-- R220: `HL = 0x8A23, ADD HL,HL`. -/
theorem test_add_hl_hl :
    after (cpuStep { (codeAt 0x0100#16 [0x29#8]) with h := 0x8A#8, l := 0x23#8 }) (fun t => (t.h, t.l, t.f)) = some (0x14#8, 0x46#8, 0x30#8) := by decide

/-- R223: `SP = 0xD00F, e8 = 0xF1`. -/
theorem test_add_sp_negative :
    after (cpuStep { (codeAt 0x0100#16 [0xE8#8, 0xF1#8]) with sp := 0xD00F#16 }) (fun t => (t.sp, t.f)) = some (0xD000#16, 0x30#8) := by decide

/-- R234: at `pc0 = 0x0000`, `e8 = 0x80`. -/
theorem test_jr_wraps :
    after (cpuStep (codeAt 0x0000#16 [0x18#8, 0x80#8])) (fun t => t.pc) = some 0xFF82#16 := by decide

/-- R235: with `fZ = 1`, `PC = 0x000C`. -/
theorem test_jr_nz_not_taken :
    after (cpuStep { (codeAt 0x000A#16 [0x20#8, 0xFB#8]) with f := 0x80#8 }) (fun t => t.pc) = some 0x000C#16 := by decide

/-- R236. -/
theorem test_call :
    after (cpuStep { (codeAt 0x0028#16 [0xCD#8, 0x95#8, 0x00#8]) with sp := 0xFFFE#16 }) (fun t => (t.readByte 0xFFFD#16, t.readByte 0xFFFC#16, t.sp, t.pc)) = some (0x00#8, 0x2B#8, 0xFFFC#16, 0x0095#16) := by decide

/-- R75, R236: the stack slot overlaps the operand bytes, the target does not change. -/
theorem test_call_over_itself :
    after (cpuStep { (codeAt 0x0100#16 [0xCD#8, 0x95#8, 0x00#8]) with sp := 0x0103#16 }) (fun t => (t.readByte 0x0101#16, t.readByte 0x0102#16, t.pc)) = some (0x03#8, 0x01#8, 0x0095#16) := by decide

/-- R238. -/
theorem test_ret :
    after (cpuStep { (State.writeByte (codeAt 0x0100#16 [0xC9#8]) 0xFFFC#16 0x2B#8) with sp := 0xFFFC#16 }) (fun t => (t.pc, t.sp)) = some (0x002B#16, 0xFFFE#16) := by decide

/-- R240. -/
theorem test_rst_28 :
    after (cpuStep { (codeAt 0x0150#16 [0xEF#8]) with sp := 0xFFFE#16 }) (fun t => (t.readByte 0xFFFD#16, t.readByte 0xFFFC#16, t.pc)) = some (0x01#8, 0x51#8, 0x0028#16) := by decide

/-- R260: `A = 0x00` gives `fZ = 0`. -/
theorem test_rlca_zero :
    after (cpuStep { (codeAt 0x0100#16 [0x07#8]) with f := 0xF0#8 }) (fun t => (t.a, t.f)) = some (0x00#8, 0x00#8) := by decide

/-- R268. -/
theorem test_rr_a :
    after (cpuStep { (codeAt 0x0100#16 [0xCB#8, 0x1F#8]) with a := 0x8A#8, f := 0x10#8 }) (fun t => (t.a, t.f, t.pc)) = some (0xC5#8, 0x00#8, 0x0102#16) := by decide

/-- R270. -/
theorem test_sra_keeps_sign :
    after (cpuStep { (codeAt 0x0100#16 [0xCB#8, 0x2F#8]) with a := 0x8A#8 }) (fun t => (t.a, t.f)) = some (0xC5#8, 0x00#8) := by decide

/-- R273. -/
theorem test_bit_7_h :
    after (cpuStep { (codeAt 0x0100#16 [0xCB#8, 0x7C#8]) with h := 0x9F#8, f := 0x80#8 }) (fun t => (t.h, t.f)) = some (0x9F#8, 0x20#8) := by decide

/-- R275. -/
theorem test_set_7_atHL :
    after (cpuStep { (codeAt 0x0100#16 [0xCB#8, 0xFE#8]) with h := 0xC0#8 }) (fun t => t.readByte 0xC000#16) = some 0x80#8 := by decide

/-- R27: an instruction whose first byte is at 0xFFFF has its second byte at 0x0000. -/
theorem test_fetch_wraps :
    after (cpuStep (codeAt 0xFFFF#16 [0x3E#8, 0x5A#8])) (fun t => (t.a, t.pc)) = some (0x5A#8, 0x0001#16) := by decide

/-- R361: `mem[0x0200] = 0x76`, `PC = 0x0200`. -/
theorem test_halt_faults :
    after (cpuStep (codeAt 0x0200#16 [0x76#8])) (fun t => (t.status, t.pc)) = some (RunStatus.faulted .main 0x76#8 0x0200#16, 0x0200#16) := by decide

/-- R393: no tick follows a faulting step. -/
theorem test_fault_stops_ppu : after (step (codeAt 0x0150#16 [0xD3#8])) (fun t => t.ppu.ticks) = some 0 := by decide

/-! ### The PPU: the examples of R301 and R340 -/

/-- R301: the line of the tile map and the tile line for `ly = 100`. -/
theorem test_mapRowAddr_100 : mapRowAddr 100 = 0x9980#16 ∧ 100 % 8 = 4 := by decide

/-- R340: one tile line through the fetcher. -/
theorem test_fetcher_example :
    (PixelRow.orHigh (PixelRow.ofLow 0x3C#8) 0x7E#8).toList = [0#2, 2#2, 3#2, 3#2, 3#2, 3#2, 2#2, 0#2] := by decide

/-- R340: the planes of line 5 of tile 0xFF. -/
theorem test_tileAddr_last : tileAddr 0xFF#8 5 = 0x8FFA#16 := by decide

/-- R339: 17 pushes from empty store 16 and count one violation. -/
theorem test_fifo_seventeen_pushes :
    (fun u : Ppu => (u.fifo.length, u.violations)) (Ppu.reset.fifoPushAll (List.replicate 17 1#2)) = (16, 1) := by decide

/-! ### Witnesses: a state and operands that meet the hypotheses of each statement -/

theorem witness_DecodeOfEncode : Instr.wf (.ld_sp_d16 0xFFFE#16) = true := by decide

theorem witness_EncodeOfDecode : decode [0xCB#8, 0x7C#8, 0x00#8] = .ok (.bit_7_h, [0x00#8]) := by rfl

/-- `LD SP,d16` at reset, the first instruction of the boot image. -/
theorem witness_StepRunsTheDecodedInstruction :
    State.reset.status = .running ∧
    decode [State.reset.readByte State.reset.pc, State.reset.readByte (State.reset.pc + 1),
      State.reset.readByte (State.reset.pc + 2)] = .ok (.ld_sp_d16 0xFFFE#16, []) ∧
    exec (.ld_sp_d16 0xFFFE#16) State.reset = .next { State.reset with sp := 0xFFFE#16, pc := 3#16 } := ⟨rfl, rfl, rfl⟩

theorem witness_UnhandledOpcodeFaultIsPrecise :
    0xD3#8 ∈ unhandledBytes ∧ (codeAt 0x0150#16 [0xD3#8]).status = .running ∧
    (codeAt 0x0150#16 [0xD3#8]).readByte (codeAt 0x0150#16 [0xD3#8]).pc ∈ unhandledBytes := by decide

theorem witness_FaultEndsTheRun :
    { State.reset with status := .faulted .main 0xD3#8 0x0150#16 }.status = .faulted .main 0xD3#8 0x0150#16 := rfl

theorem witness_FirstStepLoadsStackPointer :
    [0x31#8, 0xFE#8, 0xFF#8, 0xAF#8].take 3 = [0x31#8, 0xFE#8, 0xFF#8] := by decide

theorem witness_MemoriesEqualWhenReadsEqual :
    Memory.wf [(0x8000, 0x11#8)] = true ∧ Memory.wf (Memory.write [] 0x8000 0x11#8) = true ∧
    ∀ a : Word, Memory.read [(0x8000, 0x11#8)] a.toNat = Memory.read (Memory.write [] 0x8000 0x11#8) a.toNat :=
  ⟨by decide, by decide, fun _ => rfl⟩

/-- The reset state meets the invariant, and its step answers a next state. -/
theorem witness_StepKeepsInvariant : State.reset.Inv ∧ ∃ t, step State.reset = .next t :=
  ⟨⟨rfl, rfl, ⟨by decide, by decide, by decide, by decide, by decide, by decide⟩⟩, _, rfl⟩

/-- A PPU whose fetcher waits with tile column 21 to push, as it does at the end of a line. -/
def lineEnd (mode : PpuMode) (ticks ly x fticks n : Nat) : Ppu :=
  { Ppu.reset with
    mode := mode
    ticks := ticks
    ly := ly
    x := x
    tileIndex := 21
    fticks := fticks
    fstate := .pushToFifo
    mapAddr := mapRowAddr ly
    tileLine := ly % 8
    fifo := List.replicate n 1#2 }

/-- The invariant is met in every mode of the PPU: the last tick of `PixelTransfer`, of `HBlank` and of `VBlank`. -/
theorem witness_invariant_modes :
    (lineEnd .pixelTransfer 214 143 159 0 9).onSchedule ∧ (lineEnd .hBlank 455 143 160 1 8).onSchedule ∧
    (lineEnd .vBlank 455 153 160 1 8).onSchedule :=
  ⟨⟨by decide, by decide, by decide, by decide, by decide, by decide, by decide, by decide, by decide, by decide⟩,
    ⟨by decide, by decide, by decide, rfl, rfl, rfl, rfl, rfl⟩, ⟨by decide, by decide, by decide, rfl, rfl, rfl, rfl, rfl⟩⟩

theorem witness_FlagLowNibbleStaysZero : { State.reset with f := 0xF0#8 }.f &&& 0x0F#8 = 0 := by decide

theorem witness_FifoNeverViolated : State.reset.Inv ∧ ∃ t, step State.reset = .next t := witness_StepKeepsInvariant

/-- A memory that differs outside the tile data and the tile map only. -/
theorem witness_PpuReadsVideoMemoryOnly :
    State.reset.ppu.onSchedule ∧
    ∀ a, (0x8000 ≤ a ∧ a ≤ 0x8FFF) ∨ (0x9800 ≤ a ∧ a ≤ 0x9A35) →
      Memory.read [(0x9FFF, 0x11#8)] a = State.reset.mem.read a := by
  refine ⟨witness_StepKeepsInvariant.1.schedule, fun a h => ?_⟩
  have : (0x9FFF : Nat) ≠ a := by omega
  simp [Memory.read, this, State.reset]

theorem witness_InstructionAdvancesPC :
    (encode .nop).headD 0 ∉ transferBytes ∧ (encode .nop).headD 0 ∉ unhandledBytes := by decide

theorem witness_PushThenPopRestores : { State.reset with f := 0xB0#8 }.f &&& 0x0F#8 = 0 := by decide

theorem witness_DecimalArithmetic :
    (99 < 100 ∧ { State.reset with a := 0x99#8 }.a = bcd 99) ∧ (0 < 100 ∧ State.reset.a = bcd 0) := by decide

/-- Taken and not taken, for each condition. -/
theorem witness_CallAndRestart :
    (condHolds .nz 0x00#8 = true ∧ condHolds .z 0x80#8 = true ∧ condHolds .nc 0x00#8 = true ∧ condHolds .c 0x10#8 = true) ∧
    (condHolds .nz 0x80#8 = false ∧ condHolds .z 0x00#8 = false ∧ condHolds .nc 0x10#8 = false ∧
      condHolds .c 0x00#8 = false) := by decide

/-- The two clauses of `ObjectSearchTick` at ticks 38 and 39. -/
theorem witness_ObjectSearchTick :
    { State.reset with ppu := { Ppu.reset with ticks := 38 } }.ppu.mode = .objectSearch ∧ 38 + 1 ≠ 40 ∧
    { State.reset with ppu := { Ppu.reset with ticks := 39 } }.ppu.mode = .objectSearch ∧ 39 + 1 = 40 := by decide

/-- A `PixelTransfer` state with a FIFO of `n` pixels. -/
def transferState (n x : Nat) : State :=
  { State.reset with ppu := { Ppu.reset with mode := .pixelTransfer, ticks := 100, fifo := List.replicate n 1#2, x := x } }

/-- The clauses of `PixelTransferTick`: 8 pixels, 9 pixels before the last column, 9 pixels at the last column. -/
theorem witness_PixelTransferTick :
    ((transferState 8 0).ppu.mode = .pixelTransfer ∧
      (Ppu.fetcherTick { (transferState 8 0).ppu with ticks := 101 } []).fifo.length ≤ 8) ∧
    ((Ppu.fetcherTick { (transferState 9 158).ppu with ticks := 101 } []).fifo = 1#2 :: List.replicate 8 1#2 ∧
      8 < (Ppu.fetcherTick { (transferState 9 158).ppu with ticks := 101 } []).fifo.length ∧
      (transferState 9 158).ppu.x ≠ 159) ∧
    ((Ppu.fetcherTick { (transferState 9 159).ppu with ticks := 101 } []).fifo = 1#2 :: List.replicate 8 1#2 ∧
      8 < (Ppu.fetcherTick { (transferState 9 159).ppu with ticks := 101 } []).fifo.length ∧
      (transferState 9 159).ppu.x = 159) := by decide

/-- The clauses of `EightTicksFetchOneTile`: 8 pixels waiting, and 9. -/
theorem witness_EightTicksFetchOneTile :
    (Ppu.reset.fstate = .readTileIndex ∧ Ppu.reset.fticks = 0 ∧ Ppu.reset.tileLine < 8) ∧
    ({ Ppu.reset with fifo := List.replicate 8 1#2 }.fifo.length ≤ 8) ∧
    (8 < { Ppu.reset with fifo := List.replicate 9 1#2 }.fifo.length ∧
      { Ppu.reset with fifo := List.replicate 9 1#2 }.fifo.length ≤ 16) := by decide

theorem witness_FifoOperations :
    ({ Ppu.reset with fifo := [1#2, 2#2] }.fifo = 1#2 :: [2#2] ∧ { Ppu.reset with fifo := [1#2, 2#2] }.fifo.length ≤ 16) ∧
    (Ppu.reset.fifo = [] ∧ Ppu.reset.fifo.length ≤ 16) := by decide

/-- A blank state. -/
def blankState (mode : PpuMode) (ticks ly : Nat) : State :=
  { State.reset with ppu := { Ppu.reset with mode := mode, ticks := ticks, ly := ly } }

/-- The clauses of `BlankTicks`: ticks 454 and 455 in both modes, and what line 143, 152 and 153 lead to. -/
theorem witness_BlankTicks :
    ((blankState .hBlank 454 0).ppu.mode = .hBlank ∧ (blankState .hBlank 454 0).ppu.ticks + 1 ≠ 456) ∧
    ((blankState .hBlank 455 143).ppu.mode = .hBlank ∧ (blankState .hBlank 455 143).ppu.ticks + 1 = 456) ∧
    (blankState .vBlank 455 153).ppu.mode = .vBlank := by decide

theorem test_line_143_starts_vBlank :
    (fun t : State => (t.ppu.mode, t.ppu.ly, t.ppu.sink, t.readByte 0xFF44#16)) (ppuTick (blankState .hBlank 455 143)) =
      (.vBlank, 144, [.endOfFrame], 144#8) := by decide

theorem test_line_152_stays_in_vBlank :
    (fun t : State => (t.ppu.mode, t.ppu.ly, t.readByte 0xFF44#16)) (ppuTick (blankState .vBlank 455 152)) =
      (.vBlank, 153, 153#8) := by decide

theorem test_line_153_ends_the_frame :
    (fun t : State => (t.ppu.mode, t.ppu.ly, t.readByte 0xFF44#16)) (ppuTick (blankState .vBlank 455 153)) =
      (.objectSearch, 0, 0#8) := by decide

theorem witness_LineRendersItsPixels :
    ((blankState .objectSearch 0 0).ppu.mode = .objectSearch ∧ (blankState .objectSearch 0 0).ppu.ticks = 0 ∧
      (blankState .objectSearch 0 0).ppu.ly < 144) ∧
    ((blankState .objectSearch 0 143).ppu.mode = .objectSearch ∧ (blankState .objectSearch 0 143).ppu.ticks = 0 ∧
      (blankState .objectSearch 0 143).ppu.ly < 144) := by decide

theorem witness_FrameRendersAndRepeats :
    State.reset.ppu.mode = .objectSearch ∧ State.reset.ppu.ticks = 0 ∧ State.reset.ppu.ly = 0 := by decide

end Sys2Proof.Tests
end

section
/-! What `exec` can do, said once for all instructions, and what the two agents leave alone (spec R2, R20, R27, R360). -/

namespace Sys2Proof.Machine

open Sys2Proof.Claims

/-! ### The instructions whose meaning is no shared operation -/

theorem exec_nop_sequential (s : State) : Sequential 1 s (exec_nop s) := ⟨_, rfl, rfl, rfl, id, id, rfl⟩

theorem exec_ld_at16_sp_sequential (a16 : Word) (s : State) : Sequential 3 s (exec_ld_at16_sp a16 s) :=
  ⟨_, rfl, rfl, rfl, id, fun h => State.wf_writeByte _ _ _ (State.wf_writeByte (s.advance 3) _ _ h), rfl⟩

theorem exec_ld_sp_hl_sequential (s : State) : Sequential 1 s (exec_ld_sp_hl s) := ⟨_, rfl, rfl, rfl, id, id, rfl⟩

theorem exec_ld_hl_sp_e8_sequential (e8 : Byte) (s : State) : Sequential 2 s (exec_ld_hl_sp_e8 e8 s) :=
  ⟨_, rfl, rfl, rfl, fun _ => spPlusFlags_low .., id, rfl⟩

theorem exec_add_sp_e8_sequential (e8 : Byte) (s : State) : Sequential 2 s (exec_add_sp_e8 e8 s) :=
  ⟨_, rfl, rfl, rfl, fun _ => spPlusFlags_low .., id, rfl⟩

theorem exec_daa_sequential (s : State) : Sequential 1 s (exec_daa s) :=
  ⟨_, rfl, rfl, rfl, fun _ => daaFlags_low .., id, rfl⟩

theorem exec_cpl_sequential (s : State) : Sequential 1 s (exec_cpl s) :=
  ⟨_, rfl, rfl, rfl, fun _ => packFlags_low .., id, rfl⟩

theorem exec_scf_sequential (s : State) : Sequential 1 s (exec_scf s) :=
  ⟨_, rfl, rfl, rfl, fun _ => packFlags_low .., id, rfl⟩

theorem exec_ccf_sequential (s : State) : Sequential 1 s (exec_ccf s) :=
  ⟨_, rfl, rfl, rfl, fun _ => packFlags_low .., id, rfl⟩

/-! ### The three kinds of instruction -/

/-- What `exec i s` can be: the next state past `i`, what a control transfer does, or the fault of an unhandled byte. -/
inductive ExecKind (i : Instr) (s : State) : Prop where
  /-- `PC` ends past the instruction (R27). -/
  | sequential (head : (encode i).headD 0 ∉ unhandledBytes) (next : Sequential (encode i).length s (exec i s))
  /-- `PC` may go anywhere (R231 to R240). -/
  | transfer (head : (encode i).headD 0 ∈ transferBytes) (next : Contained s (exec i s))
  /-- The instruction is the byte `op` and faults (R360). -/
  | unhandled (op : Byte) (mem : op ∈ unhandledBytes) (enc : encode i = [op]) (raises : exec i s = raiseUnhandled .main op s)

/-- Every instruction is of one of the three kinds: the dispatch table read by the operation that each row uses. -/
theorem execKind (i : Instr) (s : State) : ExecKind i s := by
  cases i with
  | ld_b_d8 | ld_a_atBC | ld_c_d8 | ld_d_d8 | ld_a_atDE | ld_e_d8 | ld_h_d8 | ld_l_d8 | ld_a_d8 | ld_b_b | ld_b_c
  | ld_b_d | ld_b_e | ld_b_h | ld_b_l | ld_b_atHL | ld_b_a | ld_c_b | ld_c_c | ld_c_d | ld_c_e | ld_c_h | ld_c_l
  | ld_c_atHL | ld_c_a | ld_d_b | ld_d_c | ld_d_d | ld_d_e | ld_d_h | ld_d_l | ld_d_atHL | ld_d_a | ld_e_b | ld_e_c
  | ld_e_d | ld_e_e | ld_e_h | ld_e_l | ld_e_atHL | ld_e_a | ld_h_b | ld_h_c | ld_h_d | ld_h_e | ld_h_h | ld_h_l
  | ld_h_atHL | ld_h_a | ld_l_b | ld_l_c | ld_l_d | ld_l_e | ld_l_h | ld_l_l | ld_l_atHL | ld_l_a | ld_a_b | ld_a_c
  | ld_a_d | ld_a_e | ld_a_h | ld_a_l | ld_a_atHL | ld_a_a | ldh_a_at8 | ld_a_atC | ld_a_at16 =>
    exact .sequential (of_decide_eq_true rfl) (loadReg_sequential ..)
  | ld_atBC_a | ld_atDE_a | ld_atHL_d8 | ld_atHL_b | ld_atHL_c | ld_atHL_d | ld_atHL_e | ld_atHL_h | ld_atHL_l
  | ld_atHL_a | ldh_at8_a | ld_atC_a | ld_at16_a =>
    exact .sequential (of_decide_eq_true rfl) (storeByte_sequential ..)
  | ld_atHLI_a | ld_atHLD_a =>
    exact .sequential (of_decide_eq_true rfl) (storeStepHL_sequential ..)
  | ld_a_atHLI | ld_a_atHLD =>
    exact .sequential (of_decide_eq_true rfl) (loadStepHL_sequential ..)
  | ld_bc_d16 | ld_de_d16 | ld_hl_d16 | ld_sp_d16 =>
    exact .sequential (of_decide_eq_true rfl) (loadPair_sequential ..)
  | push_bc | push_de | push_hl | push_af =>
    exact .sequential (of_decide_eq_true rfl) (pushPairStep_sequential ..)
  | pop_bc | pop_de | pop_hl | pop_af =>
    exact .sequential (of_decide_eq_true rfl) (popPairStep_sequential ..)
  | ld_at16_sp =>
    exact .sequential (of_decide_eq_true rfl) (exec_ld_at16_sp_sequential ..)
  | ld_sp_hl =>
    exact .sequential (of_decide_eq_true rfl) (exec_ld_sp_hl_sequential ..)
  | ld_hl_sp_e8 =>
    exact .sequential (of_decide_eq_true rfl) (exec_ld_hl_sp_e8_sequential ..)
  | add_a_b | add_a_c | add_a_d | add_a_e | add_a_h | add_a_l | add_a_atHL | add_a_a | adc_a_b | adc_a_c | adc_a_d
  | adc_a_e | adc_a_h | adc_a_l | adc_a_atHL | adc_a_a | sub_b | sub_c | sub_d | sub_e | sub_h | sub_l | sub_atHL
  | sub_a | sbc_a_b | sbc_a_c | sbc_a_d | sbc_a_e | sbc_a_h | sbc_a_l | sbc_a_atHL | sbc_a_a | and_b | and_c | and_d
  | and_e | and_h | and_l | and_atHL | and_a | xor_b | xor_c | xor_d | xor_e | xor_h | xor_l | xor_atHL | xor_a | or_b
  | or_c | or_d | or_e | or_h | or_l | or_atHL | or_a | cp_b | cp_c | cp_d | cp_e | cp_h | cp_l | cp_atHL | cp_a
  | add_a_d8 | adc_a_d8 | sub_d8 | sbc_a_d8 | and_d8 | xor_d8 | or_d8 | cp_d8 =>
    exact .sequential (of_decide_eq_true rfl) (aluStep_sequential ..)
  | inc_b | inc_c | inc_d | inc_e | inc_h | inc_l | inc_atHL | inc_a =>
    exact .sequential (of_decide_eq_true rfl) (incStep_sequential ..)
  | dec_b | dec_c | dec_d | dec_e | dec_h | dec_l | dec_atHL | dec_a =>
    exact .sequential (of_decide_eq_true rfl) (decStep_sequential ..)
  | daa =>
    exact .sequential (of_decide_eq_true rfl) (exec_daa_sequential ..)
  | cpl =>
    exact .sequential (of_decide_eq_true rfl) (exec_cpl_sequential ..)
  | scf =>
    exact .sequential (of_decide_eq_true rfl) (exec_scf_sequential ..)
  | ccf =>
    exact .sequential (of_decide_eq_true rfl) (exec_ccf_sequential ..)
  | add_hl_bc | add_hl_de | add_hl_hl | add_hl_sp =>
    exact .sequential (of_decide_eq_true rfl) (addHLStep_sequential ..)
  | inc_bc | inc_de | inc_hl | inc_sp =>
    exact .sequential (of_decide_eq_true rfl) (incPairStep_sequential ..)
  | dec_bc | dec_de | dec_hl | dec_sp =>
    exact .sequential (of_decide_eq_true rfl) (decPairStep_sequential ..)
  | add_sp_e8 =>
    exact .sequential (of_decide_eq_true rfl) (exec_add_sp_e8_sequential ..)
  | rlca | rrca | rla | rra =>
    exact .sequential (of_decide_eq_true rfl) (rotAccStep_sequential ..)
  | rlc_b | rlc_c | rlc_d | rlc_e | rlc_h | rlc_l | rlc_atHL | rlc_a | rrc_b | rrc_c | rrc_d | rrc_e | rrc_h | rrc_l
  | rrc_atHL | rrc_a | rl_b | rl_c | rl_d | rl_e | rl_h | rl_l | rl_atHL | rl_a | rr_b | rr_c | rr_d | rr_e | rr_h
  | rr_l | rr_atHL | rr_a | sla_b | sla_c | sla_d | sla_e | sla_h | sla_l | sla_atHL | sla_a | sra_b | sra_c | sra_d
  | sra_e | sra_h | sra_l | sra_atHL | sra_a | swap_b | swap_c | swap_d | swap_e | swap_h | swap_l | swap_atHL | swap_a
  | srl_b | srl_c | srl_d | srl_e | srl_h | srl_l | srl_atHL | srl_a =>
    exact .sequential (of_decide_eq_true rfl) (rotStep_sequential ..)
  | bit_0_b | bit_0_c | bit_0_d | bit_0_e | bit_0_h | bit_0_l | bit_0_atHL | bit_0_a | bit_1_b | bit_1_c | bit_1_d
  | bit_1_e | bit_1_h | bit_1_l | bit_1_atHL | bit_1_a | bit_2_b | bit_2_c | bit_2_d | bit_2_e | bit_2_h | bit_2_l
  | bit_2_atHL | bit_2_a | bit_3_b | bit_3_c | bit_3_d | bit_3_e | bit_3_h | bit_3_l | bit_3_atHL | bit_3_a | bit_4_b
  | bit_4_c | bit_4_d | bit_4_e | bit_4_h | bit_4_l | bit_4_atHL | bit_4_a | bit_5_b | bit_5_c | bit_5_d | bit_5_e
  | bit_5_h | bit_5_l | bit_5_atHL | bit_5_a | bit_6_b | bit_6_c | bit_6_d | bit_6_e | bit_6_h | bit_6_l | bit_6_atHL
  | bit_6_a | bit_7_b | bit_7_c | bit_7_d | bit_7_e | bit_7_h | bit_7_l | bit_7_atHL | bit_7_a =>
    exact .sequential (of_decide_eq_true rfl) (bitStep_sequential ..)
  | res_0_b | res_0_c | res_0_d | res_0_e | res_0_h | res_0_l | res_0_atHL | res_0_a | res_1_b | res_1_c | res_1_d
  | res_1_e | res_1_h | res_1_l | res_1_atHL | res_1_a | res_2_b | res_2_c | res_2_d | res_2_e | res_2_h | res_2_l
  | res_2_atHL | res_2_a | res_3_b | res_3_c | res_3_d | res_3_e | res_3_h | res_3_l | res_3_atHL | res_3_a | res_4_b
  | res_4_c | res_4_d | res_4_e | res_4_h | res_4_l | res_4_atHL | res_4_a | res_5_b | res_5_c | res_5_d | res_5_e
  | res_5_h | res_5_l | res_5_atHL | res_5_a | res_6_b | res_6_c | res_6_d | res_6_e | res_6_h | res_6_l | res_6_atHL
  | res_6_a | res_7_b | res_7_c | res_7_d | res_7_e | res_7_h | res_7_l | res_7_atHL | res_7_a =>
    exact .sequential (of_decide_eq_true rfl) (resStep_sequential ..)
  | set_0_b | set_0_c | set_0_d | set_0_e | set_0_h | set_0_l | set_0_atHL | set_0_a | set_1_b | set_1_c | set_1_d
  | set_1_e | set_1_h | set_1_l | set_1_atHL | set_1_a | set_2_b | set_2_c | set_2_d | set_2_e | set_2_h | set_2_l
  | set_2_atHL | set_2_a | set_3_b | set_3_c | set_3_d | set_3_e | set_3_h | set_3_l | set_3_atHL | set_3_a | set_4_b
  | set_4_c | set_4_d | set_4_e | set_4_h | set_4_l | set_4_atHL | set_4_a | set_5_b | set_5_c | set_5_d | set_5_e
  | set_5_h | set_5_l | set_5_atHL | set_5_a | set_6_b | set_6_c | set_6_d | set_6_e | set_6_h | set_6_l | set_6_atHL
  | set_6_a | set_7_b | set_7_c | set_7_d | set_7_e | set_7_h | set_7_l | set_7_atHL | set_7_a =>
    exact .sequential (of_decide_eq_true rfl) (setStep_sequential ..)
  | prefixCB =>
    exact .sequential (of_decide_eq_true rfl) (exec_prefixCB_sequential ..)
  | nop =>
    exact .sequential (of_decide_eq_true rfl) (exec_nop_sequential ..)
  | jr_e8 | jr_nz_e8 | jr_z_e8 | jr_nc_e8 | jr_c_e8 | jp_nz_a16 | jp_a16 | jp_z_a16 | jp_nc_a16 | jp_c_a16 | jp_hl =>
    exact .transfer (of_decide_eq_true rfl) (jumpIf_contained ..)
  | call_nz_a16 | rst_00 | call_z_a16 | call_a16 | rst_08 | call_nc_a16 | rst_10 | call_c_a16 | rst_18 | rst_20 | rst_28
  | rst_30 | rst_38 =>
    exact .transfer (of_decide_eq_true rfl) (callIf_contained ..)
  | ret_nz | ret_z | ret | ret_nc | ret_c =>
    exact .transfer (of_decide_eq_true rfl) (returnIf_contained ..)
  | unhandled_stop | unhandled_halt | unhandled_D3 | unhandled_reti | unhandled_DB | unhandled_DD | unhandled_E3
  | unhandled_E4 | unhandled_EB | unhandled_EC | unhandled_ED | unhandled_di | unhandled_F4 | unhandled_ei
  | unhandled_FC | unhandled_FD =>
    exact .unhandled _ (of_decide_eq_true rfl) rfl rfl

/-! ### CPU and PPU -/

theorem Contained.ppu {s : State} {r : Result} (h : Contained s r) : ∃ t, r = .next t ∧ t.ppu = s.ppu := by
  obtain ⟨t, ht, hppu, -⟩ := h
  exact ⟨t, ht, hppu⟩

/-- Every instruction answers a next state with the PPU as it was. -/
theorem exec_ppu (i : Instr) (s : State) : ∃ t, exec i s = .next t ∧ t.ppu = s.ppu := by
  cases execKind i s with
  | sequential _ next => exact next.contained.ppu
  | transfer _ next => exact next.ppu
  | unhandled op _ _ raises => exact ⟨_, raises, rfl⟩

theorem hBlankTick_frame (s : State) (u : Ppu) : { hBlankTick s u with mem := s.mem, ppu := s.ppu } = s := by
  by_cases h : u.ticks = Config.lineTicks
  · rw [hBlankTick, if_pos h]
    rfl
  · rw [hBlankTick_count h]

theorem vBlankTick_frame (s : State) (u : Ppu) : { vBlankTick s u with mem := s.mem, ppu := s.ppu } = s := by
  by_cases h : u.ticks = Config.lineTicks
  · rw [vBlankTick, if_pos h]
    rfl
  · rw [vBlankTick_count h]

/-- A tick changes memory and PPU state only: all of the CPU and the run status are as they were. -/
theorem ppuTick_frame (s : State) : { ppuTick s with mem := s.mem, ppu := s.ppu } = s := by
  cases h : s.ppu.mode with
  | objectSearch => rw [ppuTick_objectSearch h]
  | pixelTransfer => rw [ppuTick_pixelTransfer h]
  | hBlank => rw [ppuTick_hBlank h, hBlankTick_frame]
  | vBlank => rw [ppuTick_vBlank h, vBlankTick_frame]

/-- Settles O17: the CPU half by the three kinds of instruction, the PPU half by the state of the scanline machine. -/
theorem agentsShareOnlyMemory : Obligations.AgentsShareOnlyMemory :=
  ⟨exec_ppu, ppuTick_frame⟩

end Sys2Proof.Machine
end

section
/-! The state of the machine: the two well-formedness conditions, the program counter, canonical memories, the reset state and
the register pairs (spec R22, R25, R27, R30, R36 to R41). -/

namespace Sys2Proof.Machine

open Sys2Proof.Claims

/-! ### What every instruction and every tick keeps -/

theorem Contained.keeps {s : State} {r : Result} (h : Contained s r) :
    ∃ t, r = .next t ∧ t.ppu = s.ppu ∧ (s.f &&& 0x0F#8 = 0#8 → t.f &&& 0x0F#8 = 0#8) ∧
      (s.mem.wf = true → t.mem.wf = true) := by
  obtain ⟨t, answers, ppu, -, flags, memory⟩ := h
  exact ⟨t, answers, ppu, flags, memory⟩

/-- Every instruction answers a next state, the one that faults included, with the PPU as it was; it keeps the low nibble of `F`
zero (R25) and the memory canonical. -/
theorem exec_keeps (i : Instr) (s : State) :
    ∃ t, exec i s = .next t ∧ t.ppu = s.ppu ∧ (s.f &&& 0x0F#8 = 0#8 → t.f &&& 0x0F#8 = 0#8) ∧
      (s.mem.wf = true → t.mem.wf = true) := by
  cases execKind i s with
  | sequential _ next => exact next.contained.keeps
  | transfer _ next => exact next.keeps
  | unhandled op _ _ raises => exact ⟨_, raises, rfl, id, id⟩

/-- A tick leaves `F` as it was. -/
@[simp] theorem ppuTick_f (s : State) : (ppuTick s).f = s.f := by
  have frame := congrArg State.f (ppuTick_frame s)
  exact frame

/-- Settles O15: the instructions by `exec_keeps`, the ticks by their frame. -/
theorem flagLowNibbleStaysZero : Obligations.FlagLowNibbleStaysZero := by
  refine ⟨fun image memInit => ?_, fun i s zero => ?_, fun s zero => ?_⟩
  · exact BitVec.zero_and
  · obtain ⟨t, answers, -, flags, -⟩ := exec_keeps i s
    exact ⟨t, answers, flags zero⟩
  · rwa [ppuTick_f]

/-- Settles O19: of the three kinds of instruction only the sequential one is neither a control transfer nor unhandled. -/
theorem instructionAdvancesPC : Obligations.InstructionAdvancesPC := by
  intro i s noTransfer handled
  cases execKind i s with
  | sequential _ next =>
    obtain ⟨t, answers, -, -, -, -, pc⟩ := next
    exact ⟨t, answers, pc⟩
  | transfer head _ => exact absurd head noTransfer
  | unhandled op mem enc _ => exact absurd (by simpa [enc] using mem) handled

/-! ### Canonical memories are determined by their reads -/

/-- An address below every listed one reads as unlisted. -/
theorem Memory.read_of_below {a : Nat} {m : Memory} (canonical : m.wf = true) (below : m.below a = true) :
    m.read a = Config.unlistedByte a := by
  induction m with
  | nil => rfl
  | cons c rest ih =>
    obtain ⟨-, -, -, restCanonical⟩ := (Memory.wf_cons c rest).1 canonical
    have above : ∀ d ∈ c :: rest, a < d.1 := Memory.below_of_wf canonical below
    have ne : c.1 ≠ a := (above c List.mem_cons_self).ne'
    rw [Memory.read, if_neg ne]
    exact ih restCanonical (Memory.below_intro fun d mem => above d (List.mem_cons_of_mem c mem))

@[simp] theorem Memory.read_cons_self (c : Host.Cell) (rest : Memory) : Memory.read (c :: rest) c.1 = c.2 := if_pos rfl

/-- The first entry of a canonical memory is seen by a read, so a canonical memory that reads the same lists an address no
greater. -/
theorem Memory.not_below_of_read_eq {c : Host.Cell} {rest n : Memory} (canonical : Memory.wf (c :: rest) = true)
    (other : n.wf = true) (agree : Memory.read (c :: rest) c.1 = n.read c.1) : n.below c.1 ≠ true := by
  intro below
  obtain ⟨-, listed, -, -⟩ := (Memory.wf_cons c rest).1 canonical
  rw [Memory.read_cons_self, Memory.read_of_below other below] at agree
  exact listed agree

/-- A canonical memory is determined by its reads: the first entries are the same, and so the rests read the same. -/
theorem Memory.eq_of_read_eq {m n : Memory} (hm : m.wf = true) (hn : n.wf = true)
    (agree : ∀ a < 65536, m.read a = n.read a) : m = n := by
  induction m generalizing n with
  | nil =>
    cases n with
    | nil => rfl
    | cons d n =>
      obtain ⟨inside, -⟩ := (Memory.wf_cons d n).1 hn
      exact absurd rfl (Memory.not_below_of_read_eq hn hm (agree d.1 inside).symm)
  | cons c m ih =>
    obtain ⟨cInside, -, cBelow, mCanonical⟩ := (Memory.wf_cons c m).1 hm
    have first := Memory.not_below_of_read_eq hm hn (agree c.1 cInside)
    cases n with
    | nil => exact absurd rfl first
    | cons d n =>
      obtain ⟨dInside, -, dBelow, nCanonical⟩ := (Memory.wf_cons d n).1 hn
      have last := Memory.not_below_of_read_eq hn hm (agree d.1 dInside).symm
      have address : c.1 = d.1 := by
        simp only [Memory.below, ne_eq, decide_eq_true_eq] at first last
        omega
      have entry : c = d := by
        have := agree c.1 cInside
        rw [Memory.read_cons_self, address, Memory.read_cons_self] at this
        exact Prod.ext address this
      subst entry
      refine congrArg (c :: ·) (ih mCanonical nCanonical fun a inside => ?_)
      by_cases at_c : c.1 = a
      · subst at_c
        rw [Memory.read_of_below mCanonical cBelow, Memory.read_of_below nCanonical dBelow]
      · simpa [Memory.read, at_c] using agree a inside

/-- Settles O13: an address of the memory is a word. -/
theorem memoriesEqualWhenReadsEqual : Obligations.MemoriesEqualWhenReadsEqual := by
  intro m n hm hn agree
  refine Memory.eq_of_read_eq hm hn fun a inside => ?_
  have := agree (BitVec.ofNat 16 a)
  rwa [BitVec.toNat_ofNat, Nat.mod_eq_of_lt inside] at this

/-! ### Reset -/

/-- The byte at each address after reset (R40). -/
theorem State.readByte_resetWith (image : List Byte) (memInit : Nat → Byte) (a : Word) :
    (State.resetWith image memInit).readByte a = (image[a.toNat]?).getD (memInit a.toNat) := by
  rw [State.readByte, State.resetWith_mem, Memory.read_ofBytes _ _ a.isLt]

/-- Settles O9: the registers, the PPU and the run status are constants, and the memory is what reset puts there. -/
theorem resetState : Obligations.ResetState := by
  intro image memInit
  refine ⟨⟨rfl, rfl, rfl, rfl, rfl, rfl, rfl, rfl, rfl, rfl⟩, fun a => ?_, ⟨rfl, rfl, rfl, rfl⟩,
    ⟨rfl, rfl, rfl, rfl, rfl, rfl, rfl, rfl⟩, rfl, rfl, rfl⟩
  rw [State.readByte_resetWith]
  split
  · next inside => rw [List.getElem?_eq_getElem inside, Option.getD_some]
  · next outside => rw [List.getElem?_eq_none (Nat.le_of_not_lt outside), Option.getD_none]

/-- A memory that holds at each address what an unlisted one reads as lists nothing. -/
theorem Memory.ofBytes_unlistedByte : Memory.ofBytes Config.unlistedByte = [] :=
  Memory.eq_of_read_eq (Memory.wf_ofBytes _) rfl fun a inside => by rw [Memory.read_ofBytes _ _ inside, Memory.read_nil]

/-- Settles O10: the two states differ at most in how the memory is listed. -/
theorem resetIsOneInstance : Obligations.ResetIsOneInstance := by
  change State.reset = { State.reset with mem := Memory.ofBytes Config.unlistedByte }
  rw [Memory.ofBytes_unlistedByte]
  rfl

/-! ### Pairs -/

theorem high_eq_hiByte (v : Word) : high v = hiByte v := by
  apply BitVec.eq_of_toNat_eq
  rw [hiByte_toNat, high, byte, BitVec.toNat_ofNat]
  omega

theorem low_eq_loByte (v : Word) : low v = loByte v := by
  apply BitVec.eq_of_toNat_eq
  rw [loByte_toNat, low, byte, BitVec.toNat_ofNat]

/-- Settles O20: a pair is the two bytes side by side, so every part but the round trips is the definition. -/
theorem registerPairsAreViews : Obligations.RegisterPairsAreViews := by
  intro s v x
  rw [high_eq_hiByte, low_eq_loByte]
  exact ⟨rfl, rfl, rfl, State.pair_setPair .., State.pair_setPair .., State.pair_setPair .., rfl, rfl, rfl, rfl, rfl, rfl,
    fun r q => State.reg_setReg s r q x⟩

end Sys2Proof.Machine
end

section
/-! The PPU stays on its schedule, and so every step keeps the invariant of the machine (spec R301 to R304, R309, R331 to
R338). -/

namespace Sys2Proof.Machine

/-! ### The fetcher -/

/-- Pushes that fit append their pixels in order (R337). -/
theorem Ppu.fifoPushAll_room {u : Ppu} {ps : List Pixel} (room : u.fifo.length + ps.length ≤ 16) :
    u.fifoPushAll ps = { u with fifo := u.fifo ++ ps } := by
  induction ps generalizing u with
  | nil => rw [Ppu.fifoPushAll, List.append_nil]
  | cons p ps ih =>
    rw [List.length_cons] at room
    rw [Ppu.fifoPushAll, Ppu.fifoPush_room p (by omega), ih (by simp; omega), List.append_assoc]
    rfl

theorem Ppu.fetcherStep_readTileIndex {u : Ppu} (m : Memory) (h : u.fstate = .readTileIndex) :
    u.fetcherStep m =
      { u with tileId := m.read (u.mapAddr + BitVec.ofNat 16 u.tileIndex).toNat, fstate := .readLowPlane } := by
  rw [Ppu.fetcherStep, h]

theorem Ppu.fetcherStep_readLowPlane {u : Ppu} (m : Memory) (h : u.fstate = .readLowPlane) :
    u.fetcherStep m =
      { u with pix := PixelRow.ofLow (m.read (tileAddr u.tileId u.tileLine).toNat), fstate := .readHighPlane } := by
  rw [Ppu.fetcherStep, h]

theorem Ppu.fetcherStep_readHighPlane {u : Ppu} (m : Memory) (h : u.fstate = .readHighPlane) :
    u.fetcherStep m =
      { u with pix := u.pix.orHigh (m.read (tileAddr u.tileId u.tileLine + 1).toNat), fstate := .pushToFifo } := by
  rw [Ppu.fetcherStep, h]

theorem Ppu.fetcherStep_push {u : Ppu} (m : Memory) (h : u.fstate = .pushToFifo) (room : u.fifo.length ≤ 8) :
    u.fetcherStep m =
      { u with fifo := u.fifo ++ u.pix.toList, tileIndex := u.tileIndex + 1, fstate := .readTileIndex } := by
  have fits : u.fifo.length + u.pix.toList.length ≤ 16 := by rw [PixelRow.length_toList]; omega
  have room' : u.fifoSize ≤ Config.fifoPushAtMost := room
  simp only [Ppu.fetcherStep, h, if_pos room', Ppu.fifoPushAll_room fits]

/-- The state that a fetcher step leads to, when a push finds room (R332 to R335). -/
def FetchState.next (f : FetchState) : FetchState :=
  match f with
  | .readTileIndex => .readLowPlane
  | .readLowPlane => .readHighPlane
  | .readHighPlane => .pushToFifo
  | .pushToFifo => .readTileIndex

/-- A fetcher step that does not wait: the next state, and after a push eight more pixels and the next tile column. -/
theorem Ppu.fetcherStep_next {u : Ppu} (m : Memory) (room : u.fstate = .pushToFifo → u.fifo.length ≤ 8) :
    ∃ id row ps, List.length ps = (if u.fstate = .pushToFifo then 8 else 0) ∧
      u.fetcherStep m = { u with
        fstate := u.fstate.next
        tileIndex := u.tileIndex + (if u.fstate = .pushToFifo then 1 else 0)
        tileId := id
        pix := row
        fifo := u.fifo ++ ps } := by
  cases h : u.fstate with
  | readTileIndex => exact ⟨_, _, [], rfl, by rw [Ppu.fetcherStep_readTileIndex m h, List.append_nil]; rfl⟩
  | readLowPlane => exact ⟨_, _, [], rfl, by rw [Ppu.fetcherStep_readLowPlane m h, List.append_nil]; rfl⟩
  | readHighPlane => exact ⟨_, _, [], rfl, by rw [Ppu.fetcherStep_readHighPlane m h, List.append_nil]; rfl⟩
  | pushToFifo => exact ⟨_, _, u.pix.toList, rfl, by rw [Ppu.fetcherStep_push m h (room h)]; rfl⟩

/-! ### The fetcher on the schedule: `t` is the line tick -/

/-- The fetcher repeats every eight ticks. -/
theorem fetchPhase_congr {t k : Nat} (ht : 40 ≤ t) (hk : 40 ≤ k) (h : t % 8 = k % 8) : fetchPhase t = fetchPhase k := by
  have position : (t - 40) / 2 % 4 = (k - 40) / 2 % 4 := by omega
  rw [fetchPhase, position, ← fetchPhase]

/-- Every second tick moves the fetcher (R331). -/
theorem fetchPhase_succ {t : Nat} (h : 40 ≤ t) :
    fetchPhase (t + 1) = if t % 2 = 0 then fetchPhase t else (fetchPhase t).next := by
  have one_tile : ∀ r < 8,
      fetchPhase (40 + r + 1) = if r % 2 = 0 then fetchPhase (40 + r) else (fetchPhase (40 + r)).next := by decide
  have here := one_tile (t % 8) (Nat.mod_lt t (by decide))
  rwa [fetchPhase_congr (t := 40 + t % 8 + 1) (k := t + 1) (by omega) (by omega) (by omega),
    fetchPhase_congr (t := 40 + t % 8) (k := t) (by omega) h (by omega), Nat.mod_mod_of_dvd t (by decide)] at here

theorem fetchPhase_eq_push {t : Nat} (h : 40 ≤ t) : fetchPhase t = .pushToFifo ↔ 6 ≤ t % 8 := by
  have one_tile : ∀ r < 8, fetchPhase (40 + r) = .pushToFifo ↔ 6 ≤ r := by decide
  have here := one_tile (t % 8) (Nat.mod_lt t (by decide))
  rwa [fetchPhase_congr (k := t) (by omega) h (by omega)] at here

/-- `FetcherTick` on the schedule (R331 to R335): the fetcher moves to where the table of R309 has it one tick later, and pushes
eight pixels if that ends a tile. -/
theorem Ppu.fetcherTick_scheduled {u : Ppu} {t : Nat} (m : Memory) (h : 40 ≤ t) (index : u.tileIndex = (t - 40) / 8)
    (fticks : u.fticks = (t - 40) % 2) (phase : u.fstate = fetchPhase t) (room : t % 8 = 7 → u.fifo.length ≤ 8) :
    ∃ id row ps, List.length ps = (if t % 8 = 7 then 8 else 0) ∧
      u.fetcherTick m = { u with
        tileIndex := (t + 1 - 40) / 8
        fticks := (t + 1 - 40) % 2
        fstate := fetchPhase (t + 1)
        tileId := id
        pix := row
        fifo := u.fifo ++ ps } := by
  have push := fetchPhase_eq_push h
  rw [← phase] at push
  rcases Nat.mod_two_eq_zero_or_one t with even | odd
  · have index' : (t + 1 - 40) / 8 = u.tileIndex := by omega
    have fticks' : (t + 1 - 40) % 2 = u.fticks + 1 := by omega
    have phase' : fetchPhase (t + 1) = u.fstate := by rw [fetchPhase_succ h, if_pos even, phase]
    refine ⟨u.tileId, u.pix, [], by rw [if_neg (by omega)]; rfl, ?_⟩
    rw [Ppu.fetcherTick_count m (by omega), index', fticks', phase', List.append_nil]
  · have push' : u.fstate = .pushToFifo ↔ t % 8 = 7 := push.trans (by omega)
    have index' : (t + 1 - 40) / 8 = u.tileIndex + if t % 8 = 7 then 1 else 0 := by split <;> omega
    have fticks' : (t + 1 - 40) % 2 = 0 := by omega
    have phase' : fetchPhase (t + 1) = u.fstate.next := by rw [fetchPhase_succ h, if_neg (by omega), phase]
    obtain ⟨id, row, ps, size, step⟩ := Ppu.fetcherStep_next (u := { u with fticks := 0 }) m fun h => room (push'.1 h)
    simp only [push'] at size step
    exact ⟨id, row, ps, size, by rw [Ppu.fetcherTick_step m (by omega), index', fticks', phase', step]⟩

/-! ### The FIFO -/

theorem Ppu.drain_hold {u : Ppu} (h : u.fifo.length ≤ 8) : u.drain = u := if_neg (Nat.not_lt.2 h)

theorem Ppu.drain_pop {u : Ppu} {p : Pixel} {rest : List Pixel} (h : u.fifo = p :: rest) (above : 8 ≤ rest.length) :
    u.drain = Ppu.showPixel { u with fifo := rest } p := by
  have size : u.fifoSize > Config.fifoPopAbove := by
    rw [Ppu.fifoSize, h, List.length_cons]
    exact Nat.lt_succ_of_le above
  rw [Ppu.drain, if_pos size]
  simp only [Ppu.fifoPop, h]

theorem Ppu.showPixel_within {u : Ppu} (p : Pixel) (h : u.x + 1 ≠ 160) :
    u.showPixel p = { u with x := u.x + 1, sink := u.sink ++ [.pixel p] } := if_neg h

theorem Ppu.showPixel_last {u : Ppu} (p : Pixel) (h : u.x + 1 = 160) :
    u.showPixel p = { u with x := u.x + 1, sink := u.sink ++ [.pixel p] ++ [.endOfLine], mode := .hBlank } := if_pos h

/-- What the fetcher pushes is what the FIFO holds next and, from line tick 56 on, the one pixel that leaves. -/
theorem fifoLevel_succ {t : Nat} (h : 40 ≤ t) :
    (fifoLevel t + if t % 8 = 7 then 8 else 0) = fifoLevel (t + 1) + if 56 ≤ t + 1 then 1 else 0 := by
  unfold fifoLevel
  grind

theorem fifoLevel_before_push {t : Nat} (h : t % 8 = 7) : fifoLevel t ≤ 8 := by
  unfold fifoLevel
  grind

theorem fifoLevel_before_show {t : Nat} (h : t < 56) : fifoLevel t ≤ 8 := by
  unfold fifoLevel
  grind

theorem fifoLevel_after_show {t : Nat} (h : 56 ≤ t) : 8 ≤ fifoLevel t := by
  unfold fifoLevel
  grind

/-! ### The schedule, mode by mode -/

theorem Ppu.onSchedule_objectSearch {u : Ppu} (h : u.mode = .objectSearch) :
    u.onSchedule ↔ u.ticks < 40 ∧ u.ly < 144 ∧ u.x ≤ 160 ∧ u.fifo.length ≤ 8 ∧ u.tileIndex ≤ 21 ∧ u.fticks ≤ 1 := by
  simp only [Ppu.onSchedule, h]

theorem Ppu.onSchedule_pixelTransfer {u : Ppu} (h : u.mode = .pixelTransfer) :
    u.onSchedule ↔
      40 ≤ u.ticks ∧ u.ticks < 215 ∧ u.ly < 144 ∧ u.x = pixelsShown u.ticks ∧ u.fifo.length = fifoLevel u.ticks ∧
        u.tileIndex = (u.ticks - 40) / 8 ∧ u.fticks = (u.ticks - 40) % 2 ∧ u.fstate = fetchPhase u.ticks ∧
        u.tileLine = u.ly % 8 ∧ u.mapAddr = mapRowAddr u.ly := by
  simp only [Ppu.onSchedule, h]

theorem Ppu.onSchedule_hBlank {u : Ppu} (h : u.mode = .hBlank) :
    u.onSchedule ↔ 215 ≤ u.ticks ∧ u.ticks < 456 ∧ u.ly < 144 ∧ u.lineOver := by
  simp only [Ppu.onSchedule, h]

theorem Ppu.onSchedule_vBlank {u : Ppu} (h : u.mode = .vBlank) :
    u.onSchedule ↔ u.ticks < 456 ∧ 144 ≤ u.ly ∧ u.ly < 154 ∧ u.lineOver := by
  simp only [Ppu.onSchedule, h]

/-- What a line leaves behind suits the search at the start of the next one. -/
theorem Ppu.lineOver.onSchedule_lineStart {u : Ppu} (done : u.lineOver) (mode : u.mode = .objectSearch) (start : u.ticks = 0)
    (visible : u.ly < 144) : u.onSchedule := by
  obtain ⟨x, size, index, fticks, -⟩ := done
  exact (Ppu.onSchedule_objectSearch mode).2 ⟨by omega, visible, by omega, by omega, by omega, by omega⟩

/-! ### `ObjectSearch` (R301) -/

theorem ppuTick_search {s : State} (mode : s.ppu.mode = .objectSearch) (h : s.ppu.ticks + 1 ≠ 40) :
    ppuTick s = { s with ppu := { s.ppu with ticks := s.ppu.ticks + 1 } } := by
  rw [ppuTick_objectSearch mode, Ppu.objectSearchTick, if_neg h]

theorem ppuTick_fetcherStart {s : State} (mode : s.ppu.mode = .objectSearch) (h : s.ppu.ticks + 1 = 40) :
    ppuTick s = { s with ppu := { s.ppu with
      mode := .pixelTransfer
      ticks := 40
      x := 0
      fstate := .readTileIndex
      fticks := 0
      tileIndex := 0
      tileLine := s.ppu.ly % 8
      mapAddr := mapRowAddr s.ppu.ly
      fifo := [] } } := by
  rw [ppuTick_objectSearch mode, Ppu.objectSearchTick, if_pos h, h]
  rfl

theorem ppuTick_onSchedule_objectSearch {s : State} (mode : s.ppu.mode = .objectSearch) (h : s.ppu.onSchedule) :
    (ppuTick s).ppu.onSchedule := by
  obtain ⟨ticks, ly, x, size, index, fticks⟩ := (Ppu.onSchedule_objectSearch mode).1 h
  by_cases last : s.ppu.ticks + 1 = 40
  · have phase : fetchPhase 40 = .readTileIndex := rfl
    rw [ppuTick_fetcherStart mode last]
    exact (Ppu.onSchedule_pixelTransfer rfl).2
      ⟨Nat.le_refl 40, by simp, ly, rfl, rfl, by simp, by simp, phase.symm, rfl, rfl⟩
  · rw [ppuTick_search mode last]
    exact (Ppu.onSchedule_objectSearch (u := { s.ppu with ticks := s.ppu.ticks + 1 }) mode).2
      ⟨Nat.lt_of_le_of_ne ticks last, ly, x, size, index, fticks⟩

/-! ### `PixelTransfer` (R302) -/

/-- Where the table of R309 has the PPU inside a tick of `PixelTransfer`, after the fetcher and before the FIFO: the pixel of
this tick is still in the FIFO. -/
structure Ppu.Fetched (u : Ppu) : Prop where
  mode : u.mode = .pixelTransfer
  lower : 41 ≤ u.ticks
  upper : u.ticks ≤ 215
  ly : u.ly < 144
  x : u.x = pixelsShown (u.ticks - 1)
  size : u.fifo.length = fifoLevel u.ticks + if 56 ≤ u.ticks then 1 else 0
  index : u.tileIndex = (u.ticks - 40) / 8
  fticks : u.fticks = (u.ticks - 40) % 2
  phase : u.fstate = fetchPhase u.ticks
  tileLine : u.tileLine = u.ly % 8
  mapAddr : u.mapAddr = mapRowAddr u.ly

theorem Ppu.fetched_of_onSchedule {u : Ppu} (m : Memory) (mode : u.mode = .pixelTransfer) (h : u.onSchedule) :
    (Ppu.fetcherTick { u with ticks := u.ticks + 1 } m).Fetched := by
  obtain ⟨lower, upper, ly, x, size, index, fticks, phase, tileLine, mapAddr⟩ := (Ppu.onSchedule_pixelTransfer mode).1 h
  have room : u.ticks % 8 = 7 → u.fifo.length ≤ 8 := fun pushes => size ▸ fifoLevel_before_push pushes
  obtain ⟨id, row, ps, pushed, tick⟩ :=
    Ppu.fetcherTick_scheduled (u := { u with ticks := u.ticks + 1 }) m lower index fticks phase room
  rw [tick]
  exact {
    mode
    lower := Nat.succ_le_succ lower
    upper
    ly
    x
    size := by rw [← fifoLevel_succ lower, List.length_append, size, pushed]
    index := rfl
    fticks := rfl
    phase := rfl
    tileLine
    mapAddr }

/-- From line tick 56 on a pixel leaves the FIFO; the 160th ends the transfer. -/
theorem Ppu.Fetched.drain_onSchedule {u : Ppu} (h : u.Fetched) : u.drain.onSchedule := by
  obtain ⟨mode, lower, upper, ly, x, size, index, fticks, phase, tileLine, mapAddr⟩ := h
  unfold pixelsShown at x
  by_cases shows : 56 ≤ u.ticks
  · rw [if_pos shows] at size
    obtain ⟨p, rest, fifo⟩ := List.exists_cons_of_length_eq_add_one size
    have size : rest.length = fifoLevel u.ticks := by simpa [fifo] using size
    rw [Ppu.drain_pop fifo (size ▸ fifoLevel_after_show shows)]
    by_cases last : u.x + 1 = 160
    · have ticks : u.ticks = 215 := by omega
      rw [ticks] at size index fticks phase
      rw [Ppu.showPixel_last (u := { u with fifo := rest }) p last]
      exact (Ppu.onSchedule_hBlank rfl).2 ⟨ticks.ge, by simp [ticks], ly, last, size, index, fticks, phase⟩
    · rw [Ppu.showPixel_within (u := { u with fifo := rest }) p last]
      have inner : u.ticks < 215 := by omega
      have shown : u.x + 1 = u.ticks - 55 := by omega
      refine (Ppu.onSchedule_pixelTransfer ?_).2
        ⟨Nat.le_of_succ_le lower, inner, ly, shown, size, index, fticks, phase, tileLine, mapAddr⟩
      exact mode
  · rw [if_neg shows] at size
    rw [Ppu.drain_hold (size ▸ fifoLevel_before_show (Nat.not_le.1 shows))]
    exact (Ppu.onSchedule_pixelTransfer mode).2
      ⟨Nat.le_of_succ_le lower, by omega, ly, by rw [pixelsShown]; omega, size, index, fticks, phase, tileLine, mapAddr⟩

theorem ppuTick_onSchedule_pixelTransfer {s : State} (mode : s.ppu.mode = .pixelTransfer) (h : s.ppu.onSchedule) :
    (ppuTick s).ppu.onSchedule := by
  rw [ppuTick_pixelTransfer mode]
  exact (Ppu.fetched_of_onSchedule s.mem mode h).drain_onSchedule

/-! ### `HBlank` (R303) -/

theorem ppuTick_hBlank_wait {s : State} (mode : s.ppu.mode = .hBlank) (h : s.ppu.ticks + 1 ≠ 456) :
    ppuTick s = { s with ppu := { s.ppu with ticks := s.ppu.ticks + 1 } } := by
  rw [ppuTick_hBlank mode, hBlankTick_count h]

theorem ppuTick_hBlank_lineEnd {s : State} (mode : s.ppu.mode = .hBlank) (h : s.ppu.ticks + 1 = 456)
    (inner : s.ppu.ly + 1 ≠ 144) :
    ppuTick s =
      State.writeLy { s with ppu := { s.ppu with mode := .objectSearch, ticks := 0, ly := s.ppu.ly + 1 } } (s.ppu.ly + 1) := by
  rw [ppuTick_hBlank mode, hBlankTick, if_pos h]
  simp only [if_neg inner]

theorem ppuTick_hBlank_lastLine {s : State} (mode : s.ppu.mode = .hBlank) (h : s.ppu.ticks + 1 = 456)
    (last : s.ppu.ly + 1 = 144) :
    ppuTick s = State.writeLy
      { s with ppu := { s.ppu with mode := .vBlank, ticks := 0, ly := 144, sink := s.ppu.sink ++ [.endOfFrame] } } 144 := by
  rw [ppuTick_hBlank mode, hBlankTick, if_pos h]
  simp only [last, if_true]
  rfl

theorem ppuTick_onSchedule_hBlank {s : State} (mode : s.ppu.mode = .hBlank) (h : s.ppu.onSchedule) :
    (ppuTick s).ppu.onSchedule := by
  obtain ⟨lower, upper, ly, done⟩ := (Ppu.onSchedule_hBlank mode).1 h
  by_cases lineEnd : s.ppu.ticks + 1 = 456
  · by_cases last : s.ppu.ly + 1 = 144
    · rw [ppuTick_hBlank_lastLine mode lineEnd last, State.writeLy_ppu]
      exact (Ppu.onSchedule_vBlank rfl).2 ⟨by simp, by simp, by simp, done⟩
    · rw [ppuTick_hBlank_lineEnd mode lineEnd last, State.writeLy_ppu]
      exact Ppu.lineOver.onSchedule_lineStart done rfl rfl (Nat.lt_of_le_of_ne ly last)
  · rw [ppuTick_hBlank_wait mode lineEnd]
    exact (Ppu.onSchedule_hBlank (u := { s.ppu with ticks := s.ppu.ticks + 1 }) mode).2
      ⟨Nat.le_succ_of_le lower, Nat.lt_of_le_of_ne upper lineEnd, ly, done⟩

/-! ### `VBlank` (R304) -/

theorem ppuTick_vBlank_wait {s : State} (mode : s.ppu.mode = .vBlank) (h : s.ppu.ticks + 1 ≠ 456) :
    ppuTick s = { s with ppu := { s.ppu with ticks := s.ppu.ticks + 1 } } := by
  rw [ppuTick_vBlank mode, vBlankTick_count h]

theorem ppuTick_vBlank_lineEnd {s : State} (mode : s.ppu.mode = .vBlank) (h : s.ppu.ticks + 1 = 456)
    (inner : s.ppu.ly ≠ 153) :
    ppuTick s = State.writeLy { s with ppu := { s.ppu with ticks := 0, ly := s.ppu.ly + 1 } } (s.ppu.ly + 1) := by
  rw [ppuTick_vBlank mode, vBlankTick, if_pos h]
  simp [inner]

theorem ppuTick_vBlank_frameEnd {s : State} (mode : s.ppu.mode = .vBlank) (h : s.ppu.ticks + 1 = 456)
    (last : s.ppu.ly = 153) :
    ppuTick s = State.writeLy { s with ppu := { s.ppu with mode := .objectSearch, ticks := 0, ly := 0 } } 0 := by
  rw [ppuTick_vBlank mode, vBlankTick, if_pos h]
  simp [last]

theorem ppuTick_onSchedule_vBlank {s : State} (mode : s.ppu.mode = .vBlank) (h : s.ppu.onSchedule) :
    (ppuTick s).ppu.onSchedule := by
  obtain ⟨ticks, lower, upper, done⟩ := (Ppu.onSchedule_vBlank mode).1 h
  by_cases lineEnd : s.ppu.ticks + 1 = 456
  · by_cases last : s.ppu.ly = 153
    · rw [ppuTick_vBlank_frameEnd mode lineEnd last, State.writeLy_ppu]
      exact Ppu.lineOver.onSchedule_lineStart done rfl rfl (by simp)
    · rw [ppuTick_vBlank_lineEnd mode lineEnd last, State.writeLy_ppu]
      exact (Ppu.onSchedule_vBlank (u := { s.ppu with ticks := 0, ly := s.ppu.ly + 1 }) mode).2
        ⟨by simp, Nat.le_succ_of_le lower, Nat.succ_lt_succ (Nat.lt_of_le_of_ne (Nat.le_of_lt_succ upper) last), done⟩
  · rw [ppuTick_vBlank_wait mode lineEnd]
    exact (Ppu.onSchedule_vBlank (u := { s.ppu with ticks := s.ppu.ticks + 1 }) mode).2
      ⟨Nat.lt_of_le_of_ne ticks lineEnd, lower, upper, done⟩

/-! ### The step -/

/-- A tick keeps the PPU on its schedule. -/
theorem ppuTick_onSchedule {s : State} (h : s.ppu.onSchedule) : (ppuTick s).ppu.onSchedule := by
  cases mode : s.ppu.mode with
  | objectSearch => exact ppuTick_onSchedule_objectSearch mode h
  | pixelTransfer => exact ppuTick_onSchedule_pixelTransfer mode h
  | hBlank => exact ppuTick_onSchedule_hBlank mode h
  | vBlank => exact ppuTick_onSchedule_vBlank mode h

theorem State.Inv.ppuTick {s : State} (h : s.Inv) : (ppuTick s).Inv where
  memory := wf_ppuTick s h.memory
  flags := by rw [State.flagsWf, ppuTick_f]; exact h.flags
  schedule := ppuTick_onSchedule h.schedule

theorem State.Inv.driveTicks {s : State} (h : s.Inv) : (driveTicks s).Inv := by
  rcases driveTicks_cases s with tick | same
  · rw [tick]
    exact h.ppuTick
  · rw [same]
    exact h

/-- An instruction keeps the invariant: of the PPU it touches nothing. -/
theorem State.Inv.exec {i : Instr} {s t : State} (h : s.Inv) (answers : exec i s = .next t) : t.Inv := by
  obtain ⟨t', answers', ppu, flags, memory⟩ := exec_keeps i s
  obtain rfl : t = t' := Host.Outcome.next.inj (answers.symm.trans answers')
  exact ⟨memory h.memory, flags h.flags, ppu ▸ h.schedule⟩

/-- Settles O14: a step is an instruction and then at most one tick, and both keep the invariant. -/
theorem stepKeepsInvariant : Obligations.StepKeepsInvariant := by
  intro s t inv answers
  obtain ⟨-, u, executed, rfl⟩ := step_next answers
  exact (inv.exec executed).driveTicks

end Sys2Proof.Machine
end

section
/-! What a tick of the PPU reads of memory: the fetcher's tile data and tile map, and these decide pixels and nothing else
(spec R73, R309, R331 to R336). -/

namespace Sys2Proof.Machine

/-! ### The addresses of the fetcher -/

/-- The two memories hold the same bytes in the tile data and in the part of the tile map that is shown (R73). -/
def Memory.SameVideo (m n : Memory) : Prop :=
  ∀ a, (0x8000 ≤ a ∧ a ≤ 0x8FFF) ∨ (0x9800 ≤ a ∧ a ≤ 0x9A35) → m.read a = n.read a

theorem toNat_tileMapAddr {ly i : Nat} (visible : ly < 144) (column : i ≤ 21) :
    (mapRowAddr ly + BitVec.ofNat 16 i).toNat = 0x9800 + 32 * (ly / 8) + i := by
  simp [mapRowAddr, Config.tileLines, Config.mapRowTiles]
  omega

theorem toNat_tileAddr (id : Byte) {line : Nat} (h : line < 8) :
    (tileAddr id line).toNat = 0x8000 + 16 * id.toNat + 2 * line := by
  have := id.isLt
  simp [tileAddr, Config.tileBytes]
  omega

theorem toNat_tileAddr_add_one (id : Byte) {line : Nat} (h : line < 8) :
    (tileAddr id line + 1).toNat = 0x8000 + 16 * id.toNat + 2 * line + 1 := by
  have := id.isLt
  rw [BitVec.toNat_add, toNat_tileAddr id h]
  simp
  omega

theorem Memory.SameVideo.read_tileMap {m n : Memory} (same : m.SameVideo n) {ly i : Nat} (visible : ly < 144)
    (column : i ≤ 21) :
    m.read (mapRowAddr ly + BitVec.ofNat 16 i).toNat = n.read (mapRowAddr ly + BitVec.ofNat 16 i).toNat :=
  same _ (.inr (by rw [toNat_tileMapAddr visible column]; omega))

theorem Memory.SameVideo.read_lowPlane {m n : Memory} (same : m.SameVideo n) (id : Byte) {line : Nat} (h : line < 8) :
    m.read (tileAddr id line).toNat = n.read (tileAddr id line).toNat := by
  have := id.isLt
  exact same _ (.inl (by rw [toNat_tileAddr id h]; omega))

theorem Memory.SameVideo.read_highPlane {m n : Memory} (same : m.SameVideo n) (id : Byte) {line : Nat} (h : line < 8) :
    m.read (tileAddr id line + 1).toNat = n.read (tileAddr id line + 1).toNat := by
  have := id.isLt
  exact same _ (.inl (by rw [toNat_tileAddr_add_one id h]; omega))

/-! ### The fetcher and the FIFO under two memories -/

/-- A push, done or waiting, reads no memory (R335). -/
theorem Ppu.fetcherStep_push_mem {u : Ppu} (m n : Memory) (h : u.fstate = .pushToFifo) :
    u.fetcherStep m = u.fetcherStep n := by
  simp only [Ppu.fetcherStep, h]

/-- Inside a visible line a fetcher step reads tile data and tile map only (R332 to R336). -/
theorem Ppu.fetcherStep_sameVideo {u : Ppu} {m n : Memory} (same : m.SameVideo n) (visible : u.ly < 144)
    (column : u.tileIndex ≤ 21) (tileLine : u.tileLine = u.ly % 8) (mapAddr : u.mapAddr = mapRowAddr u.ly) :
    u.fetcherStep m = u.fetcherStep n := by
  have line : u.tileLine < 8 := tileLine ▸ Nat.mod_lt _ (by decide)
  cases h : u.fstate with
  | readTileIndex =>
    rw [Ppu.fetcherStep_readTileIndex m h, Ppu.fetcherStep_readTileIndex n h, mapAddr, same.read_tileMap visible column]
  | readLowPlane =>
    rw [Ppu.fetcherStep_readLowPlane m h, Ppu.fetcherStep_readLowPlane n h, same.read_lowPlane _ line]
  | readHighPlane =>
    rw [Ppu.fetcherStep_readHighPlane m h, Ppu.fetcherStep_readHighPlane n h, same.read_highPlane _ line]
  | pushToFifo => exact Ppu.fetcherStep_push_mem m n h

theorem Ppu.fetcherTick_sameVideo {u : Ppu} {m n : Memory} (same : m.SameVideo n) (visible : u.ly < 144)
    (column : u.tileIndex ≤ 21) (tileLine : u.tileLine = u.ly % 8) (mapAddr : u.mapAddr = mapRowAddr u.ly) :
    u.fetcherTick m = u.fetcherTick n := by
  by_cases h : u.fticks + 1 < 2
  · rw [Ppu.fetcherTick_count m h, Ppu.fetcherTick_count n h]
  · rw [Ppu.fetcherTick_step m h, Ppu.fetcherTick_step n h]
    exact Ppu.fetcherStep_sameVideo same visible column tileLine mapAddr

/-- What a fetcher step takes from memory goes to the tile number or to the decoded pixels (R332 to R334). -/
theorem Ppu.fetcherStep_mem (u : Ppu) (m n : Memory) :
    ∃ id row, u.fetcherStep m = { u.fetcherStep n with tileId := id, pix := row } := by
  cases h : u.fstate with
  | readTileIndex =>
    rw [Ppu.fetcherStep_readTileIndex m h, Ppu.fetcherStep_readTileIndex n h]
    exact ⟨_, _, rfl⟩
  | readLowPlane =>
    rw [Ppu.fetcherStep_readLowPlane m h, Ppu.fetcherStep_readLowPlane n h]
    exact ⟨_, _, rfl⟩
  | readHighPlane =>
    rw [Ppu.fetcherStep_readHighPlane m h, Ppu.fetcherStep_readHighPlane n h]
    exact ⟨_, _, rfl⟩
  | pushToFifo => exact ⟨_, _, Ppu.fetcherStep_push_mem m n h⟩

theorem Ppu.fetcherTick_mem (u : Ppu) (m n : Memory) :
    ∃ id row, u.fetcherTick m = { u.fetcherTick n with tileId := id, pix := row } := by
  by_cases h : u.fticks + 1 < 2
  · rw [Ppu.fetcherTick_count m h, Ppu.fetcherTick_count n h]
    exact ⟨_, _, rfl⟩
  · rw [Ppu.fetcherTick_step m h, Ppu.fetcherTick_step n h]
    exact Ppu.fetcherStep_mem _ m n

theorem Ppu.showPixel_tile (u : Ppu) (p : Pixel) (id : Byte) (row : PixelRow) :
    Ppu.showPixel { u with tileId := id, pix := row } p = { u.showPixel p with tileId := id, pix := row } := by
  by_cases last : u.x + 1 = 160
  · rw [Ppu.showPixel_last p last, Ppu.showPixel_last (u := { u with tileId := id, pix := row }) p last]
  · rw [Ppu.showPixel_within p last, Ppu.showPixel_within (u := { u with tileId := id, pix := row }) p last]

/-- The pixel that leaves the FIFO is not the fetcher's: neither tile number nor decoded pixels matter (R302). -/
theorem Ppu.drain_tile (u : Ppu) (id : Byte) (row : PixelRow) :
    Ppu.drain { u with tileId := id, pix := row } = { u.drain with tileId := id, pix := row } := by
  by_cases h : u.fifo.length ≤ 8
  · rw [Ppu.drain_hold h, Ppu.drain_hold (u := { u with tileId := id, pix := row }) h]
  · obtain ⟨p, rest, fifo⟩ : ∃ p rest, u.fifo = p :: rest := List.exists_cons_of_length_pos (by omega)
    have above : 8 ≤ rest.length := by rw [fifo, List.length_cons] at h; omega
    rw [Ppu.drain_pop fifo above, Ppu.drain_pop (u := { u with tileId := id, pix := row }) fifo above]
    exact Ppu.showPixel_tile { u with fifo := rest } p id row

/-! ### The tick under two memories -/

theorem hBlankTick_ppu_mem (s : State) (m : Memory) (u : Ppu) :
    (hBlankTick { s with mem := m } u).ppu = (hBlankTick s u).ppu := by
  by_cases h : u.ticks = 456
  · rw [hBlankTick, hBlankTick, if_pos h, if_pos h]
    rfl
  · rw [hBlankTick_count h, hBlankTick_count h]

theorem vBlankTick_ppu_mem (s : State) (m : Memory) (u : Ppu) :
    (vBlankTick { s with mem := m } u).ppu = (vBlankTick s u).ppu := by
  by_cases h : u.ticks = 456
  · rw [vBlankTick, vBlankTick, if_pos h, if_pos h]
    rfl
  · rw [vBlankTick_count h, vBlankTick_count h]

/-- Outside `PixelTransfer` a tick reads no memory (R301, R303, R304). -/
theorem ppuTick_ppu_mem {s : State} (m : Memory) (idle : s.ppu.mode ≠ .pixelTransfer) :
    (ppuTick { s with mem := m }).ppu = (ppuTick s).ppu := by
  cases mode : s.ppu.mode with
  | objectSearch => rw [ppuTick_objectSearch mode, ppuTick_objectSearch (s := { s with mem := m }) mode]
  | pixelTransfer => exact absurd mode idle
  | hBlank =>
    rw [ppuTick_hBlank mode, ppuTick_hBlank (s := { s with mem := m }) mode]
    exact hBlankTick_ppu_mem s m _
  | vBlank =>
    rw [ppuTick_vBlank mode, ppuTick_vBlank (s := { s with mem := m }) mode]
    exact vBlankTick_ppu_mem s m _

/-- A tick on the schedule reads tile data and tile map only. -/
theorem ppuTick_sameVideo {s : State} {m : Memory} (schedule : s.ppu.onSchedule) (same : m.SameVideo s.mem) :
    (ppuTick { s with mem := m }).ppu = (ppuTick s).ppu := by
  by_cases mode : s.ppu.mode = .pixelTransfer
  · obtain ⟨-, upper, visible, -, -, index, -, -, tileLine, mapAddr⟩ := (Ppu.onSchedule_pixelTransfer mode).1 schedule
    have column : s.ppu.tileIndex ≤ 21 := by omega
    have fetched :=
      Ppu.fetcherTick_sameVideo (u := { s.ppu with ticks := s.ppu.ticks + 1 }) same visible column tileLine mapAddr
    rw [ppuTick_pixelTransfer mode, ppuTick_pixelTransfer (s := { s with mem := m }) mode]
    exact congrArg Ppu.drain fetched
  · exact ppuTick_ppu_mem m mode

/-- Whatever the memory, a tick differs in the tile number and the decoded pixels only. -/
theorem ppuTick_mem_tile (s : State) (m : Memory) :
    ∃ id row, (ppuTick { s with mem := m }).ppu = { (ppuTick s).ppu with tileId := id, pix := row } := by
  by_cases mode : s.ppu.mode = .pixelTransfer
  · obtain ⟨id, row, fetched⟩ := Ppu.fetcherTick_mem { s.ppu with ticks := s.ppu.ticks + 1 } m s.mem
    rw [ppuTick_pixelTransfer mode, ppuTick_pixelTransfer (s := { s with mem := m }) mode]
    exact ⟨id, row, (congrArg Ppu.drain fetched).trans (Ppu.drain_tile _ id row)⟩
  · exact ⟨_, _, ppuTick_ppu_mem m mode⟩

/-- Settles O18: on the schedule the fetcher's addresses lie in the tile data and the tile map, and in any state what it reads
there goes to the tile number and the decoded pixels, which are no part of the control. -/
theorem ppuReadsVideoMemoryOnly : Obligations.PpuReadsVideoMemoryOnly := by
  refine ⟨fun s m schedule same => ppuTick_sameVideo schedule same, fun s m => ?_⟩
  obtain ⟨id, row, tick⟩ := ppuTick_mem_tile s m
  simp only [tick, and_self]

end Sys2Proof.Machine
end

section
/-! Fetch and decode: the machine's fetch reads what the decoder reads, a step runs what the decoder answers, and the 16 unhandled
bytes fault (spec R90, R91, R100, R101, R360 to R362, R393). -/

namespace Sys2Proof.Machine

open Sys2Proof.Claims

/-! ### Bytes beyond the instruction (R90, R104) -/

/-- The byte at offset `k` of an instruction that begins with `op`: `v`, or zero where the instruction is shorter. -/
def operandByte (op : Byte) (k : Nat) (v : Byte) : Byte := if k < lengthOf op then v else 0#8

/-- Each row of the main table (R99) uses an operand byte in the columns where R104 gives the instruction that length. -/
theorem mainRow_operandBytes {hi : Nat} (h : hi < 16) (b1 b2 : Byte) :
    mainRow hi b1 b2 = (List.range 16).map fun lo =>
      decodeOp (byte (16 * hi + lo)) (operandByte (byte (16 * hi + lo)) 1 b1) (operandByte (byte (16 * hi + lo)) 2 b2) := by
  interval_cases hi <;> rfl

/-- A shorter instruction does not look at the bytes beyond its length (log 8). -/
theorem decodeOp_operandBytes (op b1 b2 : Byte) :
    decodeOp op b1 b2 = decodeOp op (operandByte op 1 b1) (operandByte op 2 b2) := by
  have row : op.toNat / 16 < 16 := Nat.div_lt_of_lt_mul op.isLt
  have column : op.toNat % 16 < 16 := Nat.mod_lt _ (by decide)
  have whole : byte (16 * (op.toNat / 16) + op.toNat % 16) = op := by
    rw [Nat.div_add_mod, byte, BitVec.ofNat_toNat, BitVec.setWidth_eq]
  conv_lhs => rw [decodeOp, mainRow_operandBytes row]
  simp [column, whole]

/-- The decoder reads the three bytes of a fetch as the instruction that they hold, whatever its length. -/
theorem decode_threeBytes (op b1 b2 : Byte) :
    decode [op, b1, b2] = .ok (decodeOp op b1 b2, [op, b1, b2].drop (lengthOf op)) := by
  rw [decodeOp_operandBytes]
  rcases lengthOf_cases op with len | len | len
  · simp [decode_one _ len, operandByte, len]
  · simp [decode_two _ _ len, operandByte, len]
  · simp [decode_three _ _ _ len, operandByte, len]

/-- The fetch is the decoder's answer for the three bytes at `PC`. -/
theorem fetch_of_decode {s : State} {i : Instr} {rest : List Byte}
    (h : decode [s.readByte s.pc, s.readByte (s.pc + 1), s.readByte (s.pc + 2)] = .ok (i, rest)) : fetch s = i := by
  rw [decode_threeBytes, Except.ok.injEq, Prod.mk.injEq] at h
  exact h.1

/-- Settles O6: the core runs what it fetches, which is the decoder's answer, and the driver ticks once unless the instruction faulted. -/
theorem stepRunsTheDecodedInstruction : Obligations.StepRunsTheDecodedInstruction := by
  intro s i rest t running decoded executed
  rw [← fetch_of_decode decoded] at executed
  rw [step_running running executed]
  cases status : t.status with
  | running => rw [driveTicks_running status, if_pos rfl]
  | faulted table op pc => rw [driveTicks_faulted status, if_neg (by simp)]

/-! ### The unhandled bytes (R100, R101, R360 to R362) -/

theorem lengthOf_unhandled : ∀ op ∈ unhandledBytes, lengthOf op = 1 := by decide

theorem unhandled_not_transfer : ∀ op ∈ unhandledBytes, op ∉ transferBytes := by decide

theorem encode_decodeOp_unhandled : ∀ op ∈ unhandledBytes, encode (decodeOp op 0#8 0#8) = [op] := by decide

theorem encodedAs_unhandled {op : Byte} (mem : op ∈ unhandledBytes) : encodedAs [op] (decodeOp op 0#8 0#8) :=
  ⟨encode_decodeOp_unhandled op mem, fun rest => decode_one rest (lengthOf_unhandled op mem)⟩

/-- An instruction that is one of the unhandled bytes faults: by its encoding it is of no other kind. -/
theorem exec_unhandled {i : Instr} {op : Byte} (mem : op ∈ unhandledBytes) (enc : encode i = [op]) (s : State) :
    exec i s = .next { s with status := .faulted .main op s.pc } := by
  have head : (encode i).headD 0 = op := by rw [enc]; rfl
  cases execKind i s with
  | sequential handled _ => exact absurd (head ▸ mem) handled
  | transfer transfers _ => exact absurd (head ▸ transfers) (unhandled_not_transfer op mem)
  | unhandled op' _ enc' raises =>
    obtain rfl : op' = op := List.singleton_injective (enc'.symm.trans enc)
    exact raises

theorem fetch_unhandled {s : State} (mem : s.readByte s.pc ∈ unhandledBytes) :
    fetch s = decodeOp (s.readByte s.pc) 0#8 0#8 :=
  fetch_of_decode (decode_one _ (lengthOf_unhandled _ mem))

/-- Settles O7: an unhandled byte is an instruction of its own that faults, and the driver gives a faulted core no tick. -/
theorem unhandledOpcodeFaultIsPrecise : Obligations.UnhandledOpcodeFaultIsPrecise := by
  refine ⟨fun op mem => ⟨_, encodedAs_unhandled mem, exec_unhandled mem (encode_decodeOp_unhandled op mem)⟩, ?_⟩
  intro s running mem
  have faults := exec_unhandled mem (encode_decodeOp_unhandled _ mem) s
  rw [← fetch_unhandled mem] at faults
  rw [step_running running faults, driveTicks_faulted rfl]

end Sys2Proof.Machine
end

section
/-! The 8-bit loads and stores: their encodings, and what each writes where (spec R120 to R138). -/

namespace Sys2Proof.Machine

open Sys2Proof.Claims

/-! ### Encodings by length (R91, R104) -/

theorem encodedAs_one {op : Byte} {i : Instr} (len : lengthOf op = 1) (enc : encode i = [op])
    (dec : decodeOp op 0#8 0#8 = i) : encodedAs [op] i :=
  ⟨enc, fun rest => dec ▸ decode_one rest len⟩

theorem encodedAs_two {op b1 : Byte} {i : Instr} (len : lengthOf op = 2) (enc : encode i = [op, b1])
    (dec : decodeOp op b1 0#8 = i) : encodedAs [op, b1] i :=
  ⟨enc, fun rest => dec ▸ decode_two b1 rest len⟩

/-- A three-byte instruction holds a word, low byte first (R92). -/
theorem encodedAs_word {op : Byte} {i : Word → Instr} (v : Word) (len : lengthOf op = 3)
    (enc : encode (i v) = [op, loByte v, hiByte v]) (dec : ∀ b1 b2, decodeOp op b1 b2 = i (word16 b2 b1)) :
    encodedAs [op, low v, high v] (i v) := by
  rw [low_eq_loByte, high_eq_hiByte]
  refine ⟨enc, fun rest => ?_⟩
  calc decode ([op, loByte v, hiByte v] ++ rest)
      = .ok (decodeOp op (loByte v) (hiByte v), rest) := decode_three _ _ rest len
    _ = .ok (i v, rest) := by rw [dec, word16_hi_lo]

/-! ### The families over the register codes (R93) -/

theorem encodedAs_ldRegReg (dst src : Reg) :
    encodedAs [byte (0x40 + 8 * regCode dst + regCode src)] (ldRegReg dst src) := by
  cases dst <;> cases src <;> exact encodedAs_one rfl rfl rfl

theorem encodedAs_ldRegImm (dst : Reg) (v : Byte) : encodedAs [byte (0x06 + 8 * regCode dst), v] (ldRegImm dst v) := by
  cases dst <;> exact encodedAs_two rfl rfl rfl

theorem encodedAs_ldRegAtHL (dst : Reg) : encodedAs [byte (0x46 + 8 * regCode dst)] (ldRegAtHL dst) := by
  cases dst <;> exact encodedAs_one rfl rfl rfl

theorem encodedAs_ldAtHLReg (src : Reg) : encodedAs [byte (0x70 + regCode src)] (ldAtHLReg src) := by
  cases src <;> exact encodedAs_one rfl rfl rfl

theorem exec_ldRegReg (dst src : Reg) (s : State) : exec (ldRegReg dst src) s = loadReg dst (s.reg src) 1 s := by
  cases dst <;> cases src <;> rfl

theorem exec_ldRegImm (dst : Reg) (v : Byte) (s : State) : exec (ldRegImm dst v) s = loadReg dst v 2 s := by
  cases dst <;> rfl

theorem exec_ldRegAtHL (dst : Reg) (s : State) : exec (ldRegAtHL dst) s = loadReg dst (s.readByte s.hl) 1 s := by
  cases dst <;> rfl

theorem exec_ldAtHLReg (src : Reg) (s : State) : exec (ldAtHLReg src) s = storeByte s.hl (s.reg src) 1 s := by
  cases src <;> rfl

/-! ### What a load or a store does -/

/-- The high page is 0xFF00 to 0xFFFF: its addresses have the high byte 0xFF (R130 to R134). -/
theorem highPage_eq_append (v : Byte) : highPage v = 0xFF#8 ++ v := by
  apply BitVec.eq_of_toNat_eq
  calc (highPage v).toNat
      = 256 * 0xFF + v.toNat := by
        simp only [highPage, Config.ioBase, BitVec.toNat_add, BitVec.toNat_setWidth, BitVec.toNat_ofNat]
        omega
    _ = (word16 0xFF#8 v).toNat := (word16_toNat 0xFF#8 v).symm

/-- An instruction that ends with one write to memory, of which nothing was written before. -/
theorem stores_of_writeByte {i : Instr} {s rest : State} {addr : Word} {v : Byte}
    (answers : exec i s = .next (rest.writeByte addr v)) (memory : rest.mem = s.mem) : stores i s addr v rest := by
  refine ⟨_, answers, fun x => ?_, ?_⟩
  · rw [State.readByte_writeByte, State.readByte, memory, State.readByte]
  · rw [← memory]
    rfl

/-- Writing the pair `HL` is writing its two bytes (R22); the store before it went to the old `HL` (R135, R136). -/
theorem stores_of_storeStepHL {i : Instr} {s : State} {delta : Word} (answers : exec i s = storeStepHL delta s) :
    stores i s (s.h ++ s.l) s.a
      { s with h := high (s.h ++ s.l + delta), l := low (s.h ++ s.l + delta), pc := s.pc + 1 } := by
  rw [high_eq_hiByte, low_eq_loByte]
  exact stores_of_writeByte answers rfl

/-- The load reads at the old `HL` (R137, R138). -/
theorem loadStepHL_eq (delta : Word) (s : State) :
    loadStepHL delta s = .next
      { s with
        a := s.readByte (s.h ++ s.l)
        h := high (s.h ++ s.l + delta)
        l := low (s.h ++ s.l + delta)
        pc := s.pc + 1 } := by
  rw [high_eq_hiByte, low_eq_loByte]
  rfl

/-! ### The statements -/

/-- Settles O21: each family is `loadReg` of its source, which writes the one register after `PC` has moved. -/
theorem loadRegister : Obligations.LoadRegister :=
  ⟨fun dst src s => ⟨encodedAs_ldRegReg dst src, exec_ldRegReg dst src s⟩,
    fun dst v s => ⟨encodedAs_ldRegImm dst v, exec_ldRegImm dst v s⟩,
    fun dst s => ⟨encodedAs_ldRegAtHL dst, exec_ldRegAtHL dst s⟩⟩

/-- Settles O22: each is `loadReg` of `A` from its address; the high page alone writes its address another way. -/
theorem loadAccumulator : Obligations.LoadAccumulator := by
  intro s a16 a8
  simp only [← highPage_eq_append]
  exact ⟨⟨encodedAs_one rfl rfl rfl, rfl⟩, ⟨encodedAs_one rfl rfl rfl, rfl⟩,
    ⟨encodedAs_word a16 rfl rfl fun _ _ => rfl, rfl⟩, ⟨encodedAs_two rfl rfl rfl, rfl⟩, ⟨encodedAs_one rfl rfl rfl, rfl⟩⟩

/-- Settles O23: each store is one write to memory in the state whose `PC` has moved. (The model has an operation of the name
`storeByte`.) -/
theorem storeByteInstructions : Obligations.StoreByte := by
  intro s src v a16 a8
  simp only [← highPage_eq_append]
  exact ⟨⟨encodedAs_ldAtHLReg src, stores_of_writeByte (exec_ldAtHLReg src s) rfl⟩,
    ⟨encodedAs_two rfl rfl rfl, stores_of_writeByte rfl rfl⟩,
    ⟨encodedAs_one rfl rfl rfl, stores_of_writeByte rfl rfl⟩,
    ⟨encodedAs_one rfl rfl rfl, stores_of_writeByte rfl rfl⟩,
    ⟨encodedAs_word a16 rfl rfl fun _ _ => rfl, stores_of_writeByte rfl rfl⟩,
    ⟨encodedAs_two rfl rfl rfl, stores_of_writeByte rfl rfl⟩,
    ⟨encodedAs_one rfl rfl rfl, stores_of_writeByte rfl rfl⟩⟩

/-- Settles O24: the four are the two operations that step `HL`, with the step 1 or -1. -/
theorem transferThenModifyHL : Obligations.TransferThenModifyHL := by
  intro s addr
  rw [BitVec.sub_eq_add_neg]
  exact ⟨⟨encodedAs_one rfl rfl rfl, stores_of_storeStepHL rfl⟩, ⟨encodedAs_one rfl rfl rfl, stores_of_storeStepHL rfl⟩,
    ⟨encodedAs_one rfl rfl rfl, loadStepHL_eq 1 s⟩, ⟨encodedAs_one rfl rfl rfl, loadStepHL_eq (-1) s⟩⟩

end Sys2Proof.Machine
end

section
/-! The 16-bit loads and the stack: their encodings, what a push puts where, what a pop writes back (spec R160 to R166, R223). -/

namespace Sys2Proof.Machine

open Sys2Proof.Claims

/-! ### The families over the pair codes (R94) -/

theorem encodedAs_ldPairImm (p : Pair) (v : Word) :
    encodedAs [byte (0x01 + 16 * pairCode p), low v, high v] (ldPairImm p v) := by
  cases p <;> exact encodedAs_word v rfl rfl fun _ _ => rfl

theorem encodedAs_pushPair (p : StackPair) : encodedAs [byte (0xC5 + 16 * stackPairCode p)] (pushPair p) := by
  cases p <;> exact encodedAs_one rfl rfl rfl

theorem encodedAs_popPair (p : StackPair) : encodedAs [byte (0xC1 + 16 * stackPairCode p)] (popPair p) := by
  cases p <;> exact encodedAs_one rfl rfl rfl

theorem exec_ldPairImm (p : Pair) (v : Word) (s : State) : exec (ldPairImm p v) s = loadPair p v s := by
  cases p <;> rfl

theorem exec_pushPair (p : StackPair) (s : State) : exec (pushPair p) s = pushPairStep p s := by
  cases p <;> rfl

theorem exec_popPair (p : StackPair) (s : State) : exec (popPair p) s = popPairStep p s := by
  cases p <;> rfl

/-! ### A word written to memory as two bytes -/

/-- Which of two writes came first does not matter when their addresses differ. -/
theorem State.readByte_writeByte_writeByte (s : State) {a b : Word} (distinct : a ≠ b) (u v : Byte) (x : Word) :
    ((s.writeByte a u).writeByte b v).readByte x = if x = a then u else if x = b then v else s.readByte x := by
  have exclusive : x = b → ¬ x = a := fun atB atA => distinct (atA.symm.trans atB)
  rw [State.readByte_writeByte, State.readByte_writeByte]
  exact ite_ite_comm _ _ _ _ exclusive

/-- An instruction that ends with one push, of which nothing was written before (R166). -/
theorem pushes_of_push16 {i : Instr} {s rest : State} {v : Word} (answers : exec i s = .next (rest.push16 v))
    (memory : rest.mem = s.mem) (stack : rest.sp = s.sp) : pushes i s v { rest with sp := s.sp - 2 } := by
  have distinct : s.sp - 1 ≠ s.sp - 2 := by bv_omega
  refine ⟨_, answers, fun x => ?_, ?_⟩
  · calc (rest.push16 v).readByte x
        = if x = s.sp - 1 then hiByte v else if x = s.sp - 2 then loByte v else rest.readByte x := by
          rw [← stack] at distinct ⊢
          exact State.readByte_writeByte_writeByte rest distinct ..
      _ = if x = s.sp - 1 then high v else if x = s.sp - 2 then low v else s.readByte x := by
          rw [high_eq_hiByte, low_eq_loByte, State.readByte, memory, State.readByte]
  · simp [stack, memory]

/-- `PUSH` is one push of the pair (R163). -/
theorem pushes_pushPair (p : StackPair) (s : State) :
    pushes (pushPair p) s (s.stackPair p) { s with sp := s.sp - 2, pc := s.pc + 1 } :=
  pushes_of_push16 (exec_pushPair p s) rfl rfl

/-! ### A pair written from two bytes (R22, R23) -/

theorem State.setBC_word16 (s : State) (hi lo : Byte) : s.setBC (word16 hi lo) = { s with b := hi, c := lo } := by
  rw [State.setBC, hiByte_word16, loByte_word16]

theorem State.setDE_word16 (s : State) (hi lo : Byte) : s.setDE (word16 hi lo) = { s with d := hi, e := lo } := by
  rw [State.setDE, hiByte_word16, loByte_word16]

theorem State.setHL_word16 (s : State) (hi lo : Byte) : s.setHL (word16 hi lo) = { s with h := hi, l := lo } := by
  rw [State.setHL, hiByte_word16, loByte_word16]

theorem State.setAF_word16 (s : State) (hi lo : Byte) : s.setAF (word16 hi lo) = { s with a := hi, f := lo &&& 0xF0#8 } := by
  rw [State.setAF, hiByte_word16, loByte_word16]

theorem and_highNibble_of_low : ∀ v : Byte, v &&& 0x0F#8 = 0 → v &&& 0xF0#8 = v := by decide

/-- Writing a pair's own value back changes nothing; for `AF` because the low nibble of `F` is zero already (R25). -/
theorem State.setStackPair_stackPair {s : State} (p : StackPair) (nibble : s.f &&& 0x0F#8 = 0) :
    s.setStackPair p (s.stackPair p) = s := by
  cases p with
  | bc => exact State.setBC_word16 ..
  | de => exact State.setDE_word16 ..
  | hl => exact State.setHL_word16 ..
  | af =>
    calc s.setAF (word16 s.a s.f)
        = { s with f := s.f &&& 0xF0#8 } := State.setAF_word16 ..
      _ = s := by rw [and_highNibble_of_low s.f nibble]

@[simp] theorem State.stackPair_advance (s : State) (n : Nat) (p : StackPair) : (s.advance n).stackPair p = s.stackPair p := by
  cases p <;> rfl

@[simp] theorem State.stackPair_push16 (s : State) (v : Word) (p : StackPair) : (s.push16 v).stackPair p = s.stackPair p := by
  cases p <;> simp [State.stackPair, State.bc, State.de, State.hl, State.af]

@[simp] theorem State.stackPair_dropTop (s : State) (p : StackPair) : s.dropTop.stackPair p = s.stackPair p := by
  cases p <;> rfl

/-- A pop that finds the pair's own value moves `PC` and `SP` and nothing else (R164). -/
theorem popPairStep_own {s : State} {p : StackPair} (top : s.stackTop = s.stackPair p) (nibble : s.f &&& 0x0F#8 = 0) :
    popPairStep p s = .next (s.advance 1).dropTop := by
  have own : s.stackTop = (s.advance 1).dropTop.stackPair p := by rw [top, State.stackPair_dropTop, State.stackPair_advance]
  rw [popPairStep, own, State.setStackPair_stackPair p (s := (s.advance 1).dropTop) nibble]

/-! ### Flag bytes and signed sums -/

theorem flagByte_eq_packFlags (z n h c : Bool) : flagByte z n h c = packFlags z n h c := by
  cases z <;> cases n <;> cases h <;> cases c <;> rfl

/-- Keeping the high nibble of a byte is keeping its four flags (R24, R25). -/
theorem flagByte_highNibble : ∀ v : Byte,
    flagByte (v.getLsbD 7) (v.getLsbD 6) (v.getLsbD 5) (v.getLsbD 4) = v &&& 0xF0#8 := by decide

/-- Adding the sign-extended byte is adding its signed value, modulo 65536 (R7). -/
theorem add_sext16 (w : Word) (v : Byte) : w + sext16 v = BitVec.ofInt 16 (w.toNat + v.toInt) := by
  rw [BitVec.ofInt_add, BitVec.ofInt_natCast, BitVec.ofNat_toNat, BitVec.setWidth_eq, sext16, BitVec.signExtend]

/-- Sum and flags of R165 and R223 as numbers. -/
theorem spPlusFlags_eq (sp : Word) (e8 : Byte) :
    spPlusFlags sp e8 = (BitVec.ofInt 16 (sp.toNat + e8.toInt),
      flagByte false false (sp.toNat % 16 + e8.toNat % 16 > 0xF) (sp.toNat % 256 + e8.toNat > 0xFF)) := by
  rw [← add_sext16, flagByte_eq_packFlags]
  rfl

/-! ### The statements -/

/-- Settles O25: each load is `loadPair`, which writes the pair after `PC` has moved. -/
theorem loadWord : Obligations.LoadWord := by
  intro s v
  refine ⟨fun p => encodedAs_ldPairImm p v, ?_⟩
  rw [high_eq_hiByte, low_eq_loByte]
  exact ⟨exec_ldPairImm .bc v s, exec_ldPairImm .de v s, exec_ldPairImm .hl v s, exec_ldPairImm .sp v s,
    encodedAs_one rfl rfl rfl, rfl⟩

/-- Settles O26: the two writes go to different addresses, also when `a16 + 1` wraps to 0. -/
theorem storeStackPointer : Obligations.StoreStackPointer := by
  intro s a16
  have distinct : a16 ≠ a16 + 1 := by bv_omega
  refine ⟨encodedAs_word a16 rfl rfl fun _ _ => rfl, _, rfl, fun x => ?_, rfl⟩
  rw [low_eq_loByte, high_eq_hiByte]
  exact State.readByte_writeByte_writeByte (s.advance 3) distinct ..

/-- Settles O27: both are `spPlusFlags`, written to `HL` or to `SP`. -/
theorem stackPointerPlusDisplacement : Obligations.StackPointerPlusDisplacement := by
  intro s e8 sum flags
  have result : spPlusFlags s.sp e8 = (sum, flags) := spPlusFlags_eq s.sp e8
  refine ⟨⟨encodedAs_two rfl rfl rfl, ?_⟩, ⟨encodedAs_two rfl rfl rfl, ?_⟩⟩
  · rw [high_eq_hiByte, low_eq_loByte]
    change exec_ld_hl_sp_e8 e8 s = _
    rw [exec_ld_hl_sp_e8, result]
    rfl
  · change exec_add_sp_e8 e8 s = _
    rw [exec_add_sp_e8, result]
    rfl

/-- Settles O28: a push writes the two bytes below `SP`, a pop writes the pair from the two bytes at `SP`. -/
theorem pushAndPop : Obligations.PushAndPop := by
  intro s lo hi
  rw [flagByte_highNibble]
  exact ⟨encodedAs_pushPair, encodedAs_popPair,
    pushes_pushPair .bc s, pushes_pushPair .de s, pushes_pushPair .hl s, pushes_pushPair .af s,
    congrArg Host.Outcome.next (State.setBC_word16 ..), congrArg Host.Outcome.next (State.setDE_word16 ..),
    congrArg Host.Outcome.next (State.setHL_word16 ..), congrArg Host.Outcome.next (State.setAF_word16 ..)⟩

/-- Settles O29: the pop finds the pair's own value on the stack and writes it back. -/
theorem pushThenPopRestores : Obligations.PushThenPopRestores := by
  intro s p nibble
  obtain ⟨t, pushed⟩ : ∃ t, (s.advance 1).push16 (s.stackPair p) = t := ⟨_, rfl⟩
  have top : t.stackTop = t.stackPair p := by
    rw [← pushed, State.stackTop_push16, State.stackPair_push16, State.stackPair_advance]
  have kept : t.f &&& 0x0F#8 = 0 := by rwa [← pushed, State.push16_f, State.advance_f]
  refine ⟨t, (t.advance 1).dropTop, ?_, ?_, ?_⟩
  · rw [exec_pushPair, pushPairStep, pushed]
  · rw [exec_popPair, popPairStep_own top kept]
  · simp [← pushed, BitVec.add_assoc]

end Sys2Proof.Machine
end

section
/-! The two-operand 8-bit arithmetic and logic: the three operand forms at once, results and flags as numbers (spec R180 to
R188). -/

namespace Sys2Proof.Machine

open Sys2Proof.Claims

/-! ### The families over operation and operand (R93, R96, R180) -/

theorem encodedAs_aluReg (op : AluOp) (r : Reg) :
    encodedAs [byte (0x80 + 8 * aluCode op + regCode r)] (aluOperand op (.reg r)) := by
  cases op <;> cases r <;> exact encodedAs_one rfl rfl rfl

theorem encodedAs_aluAtHL (op : AluOp) : encodedAs [byte (0x86 + 8 * aluCode op)] (aluOperand op .atHL) := by
  cases op <;> exact encodedAs_one rfl rfl rfl

theorem encodedAs_aluImm (op : AluOp) (v : Byte) : encodedAs [byte (0xC6 + 8 * aluCode op), v] (aluImm op v) := by
  cases op <;> exact encodedAs_two rfl rfl rfl

theorem exec_aluOperand (op : AluOp) (o : Operand8) (s : State) :
    exec (aluOperand op o) s = aluStep op (s.operand o) 1 s := by
  rcases o with r | _
  · cases op <;> cases r <;> rfl
  · cases op <;> rfl

theorem exec_aluImm (op : AluOp) (v : Byte) (s : State) : exec (aluImm op v) s = aluStep op v 2 s := by
  cases op <;> rfl

/-- `aluStep` writes `A`, `F` and `PC`. -/
theorem aluStep_eq {op : AluOp} {v res flags : Byte} {s : State} (len : Nat)
    (computes : aluFlags op s.a v s.fC = (res, flags)) :
    aluStep op v len s = .next { s with a := res, f := flags, pc := s.pc + BitVec.ofNat 16 len } := by
  rw [aluStep, computes]
  rfl

/-- What holds of every instruction that is `aluStep op` of its operand holds in all three operand forms. -/
theorem aluForms_of_aluStep {op : AluOp} {claim : Instr → List Byte → (State → Byte) → Prop}
    (each : ∀ i bytes v, encodedAs bytes i → (∀ s, exec i s = aluStep op (v s) bytes.length s) → claim i bytes v) :
    aluForms op claim :=
  ⟨fun r => each _ _ _ (encodedAs_aluReg op r) (exec_aluOperand op (.reg r)),
    each _ _ _ (encodedAs_aluAtHL op) (exec_aluOperand op .atHL),
    fun v => each _ _ _ (encodedAs_aluImm op v) (exec_aluImm op v)⟩

/-- The form of most statements: the new `A` and `F` are given as a function of the state and the second operand. -/
theorem aluForms_of_aluFlags (op : AluOp) {result : State → Byte → Byte × Byte}
    (computes : ∀ s v, aluFlags op s.a v s.fC = result s v) :
    aluForms op fun i bytes v => encodedAs bytes i ∧ ∀ s : State, exec i s = .next { s with
      a := (result s (v s)).1
      f := (result s (v s)).2
      pc := s.pc + BitVec.ofNat 16 bytes.length } :=
  aluForms_of_aluStep fun _ bytes _ encoded answers =>
    ⟨encoded, fun s => (answers s).trans (aluStep_eq bytes.length (computes s _))⟩

/-- The form of the logic statements: the result is given by its bits, and only fZ depends on it. -/
theorem aluForms_of_bitwise (op : AluOp) {word : Byte → Byte → Byte} {bit : Bool → Bool → Bool} {half : Bool}
    (computes : ∀ (s : State) v, aluFlags op s.a v s.fC = (word s.a v, flagByte (word s.a v = 0) false half false))
    (bits : ∀ x y k, (word x y).getLsbD k = bit (x.getLsbD k) (y.getLsbD k)) :
    aluForms op fun i bytes v => encodedAs bytes i ∧ ∀ s : State, ∃ res : Byte,
      (∀ k < 8, res.getLsbD k = bit (s.a.getLsbD k) ((v s).getLsbD k)) ∧
      exec i s = .next { s with
        a := res, f := flagByte (res = 0) false half false, pc := s.pc + BitVec.ofNat 16 bytes.length } :=
  aluForms_of_aluStep fun _ bytes v encoded answers =>
    ⟨encoded, fun s => ⟨word s.a (v s), fun k _ => bits s.a (v s) k,
      (answers s).trans (aluStep_eq bytes.length (computes s (v s)))⟩⟩

/-! ### Results and flags as numbers -/

theorem byte_toNat (n : Nat) : (byte n).toNat = n % 256 := rfl

theorem byte_eq_zero_iff (n : Nat) : byte n = 0 ↔ n % 256 = 0 := by
  rw [BitVec.toNat_eq, byte_toNat]
  rfl

/-- Subtracting a byte is subtracting its number, modulo 256. -/
theorem ofInt_sub_toNat (z : Int) (v : Byte) : BitVec.ofInt 8 (z - v.toNat) = BitVec.ofInt 8 z - v := by
  rw [Int.sub_eq_add_neg, BitVec.ofInt_add, BitVec.ofInt_neg, BitVec.ofInt_natCast, BitVec.ofNat_toNat, BitVec.setWidth_eq,
    BitVec.sub_eq_add_neg]

theorem sub_eq_ofInt (x y : Byte) : x - y = BitVec.ofInt 8 (x.toNat - y.toNat) := by
  rw [ofInt_sub_toNat, BitVec.ofInt_natCast, BitVec.ofNat_toNat, BitVec.setWidth_eq]

/-- Sum and carries of R181 and R182. -/
theorem addFlags_eq (acc v : Byte) (carry : Bool) :
    addFlags acc v carry = (byte (acc.toNat + v.toNat + carry.toNat),
      flagByte ((acc.toNat + v.toNat + carry.toNat) % 256 = 0) false
        (acc.toNat % 16 + v.toNat % 16 + carry.toNat > 0xF) (acc.toNat + v.toNat + carry.toNat > 0xFF)) := by
  rw [flagByte_eq_packFlags, ← decide_eq_decide.2 (byte_eq_zero_iff _)]
  rfl

/-- Difference and borrows of R184. -/
theorem subFlags_eq (acc v : Byte) (carry : Bool) :
    subFlags acc v carry = (BitVec.ofInt 8 (acc.toNat - v.toNat - carry.toNat),
      flagByte (acc.toNat = (v.toNat + carry.toNat) % 256) true
        (acc.toNat % 16 < v.toNat % 16 + carry.toNat) (acc.toNat < v.toNat + carry.toNat)) := by
  have bit : (BitVec.ofNat 8 carry.toNat).toNat = carry.toNat := by cases carry <;> rfl
  have difference : acc - v - BitVec.ofNat 8 carry.toNat = BitVec.ofInt 8 (acc.toNat - v.toNat - carry.toNat) := by
    rw [sub_eq_ofInt acc v, ← ofInt_sub_toNat, bit]
  have zero : acc - v - BitVec.ofNat 8 carry.toNat = 0 ↔ acc.toNat = (v.toNat + carry.toNat) % 256 := by
    bv_omega
  rw [flagByte_eq_packFlags, ← decide_eq_decide.2 zero, ← difference]
  rfl

/-- Difference and borrows of R183 and R188, where no carry comes in. -/
theorem subFlags_noCarry (acc v : Byte) :
    subFlags acc v false = (BitVec.ofInt 8 (acc.toNat - v.toNat),
      flagByte (acc = v) true (acc.toNat % 16 < v.toNat % 16) (acc.toNat < v.toNat)) := by
  have zero : acc.toNat = (v.toNat + 0) % 256 ↔ acc = v := by
    rw [Nat.add_zero, Nat.mod_eq_of_lt v.isLt, BitVec.toNat_inj]
  rw [← decide_eq_decide.2 zero, ← Int.sub_zero (acc.toNat - v.toNat)]
  exact subFlags_eq acc v false

theorem andFlags_eq (acc v : Byte) : andFlags acc v = (acc &&& v, flagByte (acc &&& v = 0) false true false) := by
  rw [flagByte_eq_packFlags]
  rfl

theorem xorFlags_eq (acc v : Byte) : xorFlags acc v = (acc ^^^ v, flagByte (acc ^^^ v = 0) false false false) := by
  rw [flagByte_eq_packFlags]
  rfl

theorem orFlags_eq (acc v : Byte) : orFlags acc v = (acc ||| v, flagByte (acc ||| v = 0) false false false) := by
  rw [flagByte_eq_packFlags]
  rfl

/-! ### The statements -/

/-- Settles O30: both are `addFlags`, with the carry in 0 or fC. -/
theorem addWithAndWithoutCarry : Obligations.AddWithAndWithoutCarry :=
  ⟨aluForms_of_aluFlags .add fun s v => addFlags_eq s.a v false,
    aluForms_of_aluFlags .adc fun s v => addFlags_eq s.a v s.fC⟩

/-- Settles O31: the three are `subFlags`, of whose pair `CP` takes the flags only. -/
theorem subtractAndCompare : Obligations.SubtractAndCompare :=
  ⟨aluForms_of_aluFlags .sub fun s v => subFlags_noCarry s.a v,
    aluForms_of_aluFlags .sbc fun s v => subFlags_eq s.a v s.fC,
    aluForms_of_aluFlags .cp fun s v => congrArg (fun r => (s.a, r.2)) (subFlags_noCarry s.a v)⟩

/-- Settles O32: `CP` has the flags of the same `subFlags` as `SUB`. -/
theorem compareIsSubtractionWithoutResult : Obligations.CompareIsSubtractionWithoutResult :=
  fun s => ⟨fun o => ⟨_, exec_aluOperand .sub o s, exec_aluOperand .cp o s⟩,
    fun v => ⟨_, exec_aluImm .sub v s, exec_aluImm .cp v s⟩⟩

/-- Settles O33: the result is the operation on bytes, whose bits are the operation on bits. -/
theorem logicOperations : Obligations.LogicOperations :=
  ⟨aluForms_of_bitwise .and (fun s v => andFlags_eq s.a v) fun _ _ _ => BitVec.getLsbD_and,
    aluForms_of_bitwise .xor (fun s v => xorFlags_eq s.a v) fun _ _ _ => BitVec.getLsbD_xor,
    aluForms_of_bitwise .or (fun s v => orFlags_eq s.a v) fun _ _ _ => BitVec.getLsbD_or⟩

end Sys2Proof.Machine
end

section
/-! The one-operand 8-bit arithmetic: increment, decrement, decimal adjust, complement and the carry flag (spec R189 to R196). -/

namespace Sys2Proof.Machine

open Sys2Proof.Claims

/-! ### Increment and decrement (R189 to R192) -/

theorem encodedAs_incReg (r : Reg) : encodedAs [byte (0x04 + 8 * regCode r)] (incOperand (.reg r)) := by
  cases r <;> exact encodedAs_one rfl rfl rfl

theorem encodedAs_decReg (r : Reg) : encodedAs [byte (0x05 + 8 * regCode r)] (decOperand (.reg r)) := by
  cases r <;> exact encodedAs_one rfl rfl rfl

theorem exec_incOperand (o : Operand8) (s : State) : exec (incOperand o) s = incStep o s := by
  rcases o with r | _
  · cases r <;> rfl
  · rfl

theorem exec_decOperand (o : Operand8) (s : State) : exec (decOperand o) s = decStep o s := by
  rcases o with r | _
  · cases r <;> rfl
  · rfl

/-- Result and flags of R189 and R191 as numbers. -/
theorem incFlags_eq (old : Byte) (carry : Bool) :
    incFlags old carry = (byte (old.toNat + 1), flagByte (old.toNat = 0xFF) false (old.toNat % 16 = 0xF) carry) := by
  have result : old + 1 = byte (old.toNat + 1) := by rw [byte]; bv_omega
  have zero : old + 1 = 0 ↔ old.toNat = 0xFF := by bv_omega
  rw [flagByte_eq_packFlags, ← decide_eq_decide.2 zero, ← result]
  rfl

/-- Result and flags of R190 and R192 as numbers. -/
theorem decFlags_eq (old : Byte) (carry : Bool) :
    decFlags old carry = (byte (old.toNat + 255), flagByte (old.toNat = 1) true (old.toNat % 16 = 0) carry) := by
  have result : old - 1 = byte (old.toNat + 255) := by rw [byte]; bv_omega
  have zero : old - 1 = 0 ↔ old.toNat = 1 := by bv_omega
  rw [flagByte_eq_packFlags, ← decide_eq_decide.2 zero, ← result]
  rfl

theorem incStep_eq (o : Operand8) (s : State) :
    incStep o s = .next (State.setOperand { s with
      f := flagByte ((s.operand o).toNat = 0xFF) false ((s.operand o).toNat % 16 = 0xF) s.fC, pc := s.pc + 1 } o
      (byte ((s.operand o).toNat + 1))) := by
  rw [incStep, incFlags_eq]
  rfl

theorem decStep_eq (o : Operand8) (s : State) :
    decStep o s = .next (State.setOperand { s with
      f := flagByte ((s.operand o).toNat = 1) true ((s.operand o).toNat % 16 = 0) s.fC, pc := s.pc + 1 } o
      (byte ((s.operand o).toNat + 255))) := by
  rw [decStep, decFlags_eq]
  rfl

/-- Settles O34: both are the step of the operand, at a register. -/
theorem incrementDecrementRegister : Obligations.IncrementDecrementRegister := fun s r =>
  ⟨⟨encodedAs_incReg r, (exec_incOperand (.reg r) s).trans (incStep_eq (.reg r) s)⟩,
    ⟨encodedAs_decReg r, (exec_decOperand (.reg r) s).trans (decStep_eq (.reg r) s)⟩⟩

/-- Settles O35: both are the step of the operand, at `HL`, where it is one write to memory. -/
theorem incrementDecrementMemory : Obligations.IncrementDecrementMemory := fun s =>
  ⟨⟨encodedAs_one rfl rfl rfl, stores_of_writeByte (incStep_eq .atHL s) rfl⟩,
    ⟨encodedAs_one rfl rfl rfl, stores_of_writeByte (decStep_eq .atHL s) rfl⟩⟩

/-! ### An operand written and written back

An operand is neither `PC` nor `F`, whether it is read or written. -/

@[simp] theorem State.operand_advance (s : State) (n : Nat) (o : Operand8) : (s.advance n).operand o = s.operand o := by
  rcases o with r | _
  · exact State.reg_advance s n r
  · rfl

@[simp] theorem State.operand_setFlags (s : State) (z n h c : Bool) (o : Operand8) :
    (s.setFlags z n h c).operand o = s.operand o := by
  rcases o with r | _
  · exact State.reg_setFlags s z n h c r
  · rfl

theorem State.setOperand_advance (s : State) (n : Nat) (o : Operand8) (v : Byte) :
    (s.advance n).setOperand o v = (s.setOperand o v).advance n := by
  rcases o with r | _
  · cases r <;> rfl
  · rfl

theorem State.setOperand_setFlags (s : State) (z n h c : Bool) (o : Operand8) (v : Byte) :
    (s.setFlags z n h c).setOperand o v = (s.setOperand o v).setFlags z n h c := by
  rcases o with r | _
  · cases r <;> rfl
  · rfl

@[simp] theorem State.operand_setOperand (s : State) (o : Operand8) (v : Byte) : (s.setOperand o v).operand o = v := by
  rcases o with r | _
  · exact (State.reg_setReg s r r v).trans (if_pos rfl)
  · exact (State.readByte_writeByte s s.hl s.hl v).trans (if_pos rfl)

theorem State.reg_setOperand_back (s : State) (o : Operand8) (v : Byte) (q : Reg) :
    ((s.setOperand o v).setOperand o (s.operand o)).reg q = s.reg q := by
  rcases o with r | _
  · change ((s.setReg r v).setReg r (s.reg r)).reg q = s.reg q
    rw [State.reg_setReg, State.reg_setReg]
    split_ifs with same
    · rw [same]
    · rfl
  · exact (State.reg_writeByte ..).trans (State.reg_writeByte ..)

theorem State.readByte_setOperand_back (s : State) (o : Operand8) (v : Byte) (x : Word) :
    ((s.setOperand o v).setOperand o (s.operand o)).readByte x = s.readByte x := by
  rcases o with r | _
  · exact (State.readByte_setReg ..).trans (State.readByte_setReg ..)
  · change ((s.writeByte s.hl v).writeByte s.hl (s.readByte s.hl)).readByte x = s.readByte x
    rw [State.readByte_writeByte, State.readByte_writeByte]
    split_ifs with same
    · rw [same]
    · rfl

/-- An increment writes the flags but fC, and its operand (R189, R191). -/
theorem exec_incOperand_writes (o : Operand8) (s : State) : ∃ z n h,
    exec (incOperand o) s = .next (((s.setOperand o (s.operand o + 1)).advance 1).setFlags z n h s.fC) := by
  simp only [← State.setOperand_advance, ← State.setOperand_setFlags]
  exact ⟨_, _, _, exec_incOperand o s⟩

/-- A decrement writes the flags but fC, and its operand (R190, R192). -/
theorem exec_decOperand_writes (o : Operand8) (s : State) : ∃ z n h,
    exec (decOperand o) s = .next (((s.setOperand o (s.operand o - 1)).advance 1).setFlags z n h s.fC) := by
  simp only [← State.setOperand_advance, ← State.setOperand_setFlags]
  exact ⟨_, _, _, exec_decOperand o s⟩

/-- Settles O36: the decrement writes the old operand back. -/
theorem incrementThenDecrementRestores : Obligations.IncrementThenDecrementRestores := by
  intro s o
  obtain ⟨z, n, h, inc⟩ := exec_incOperand_writes o s
  obtain ⟨z', n', h', dec⟩ :=
    exec_decOperand_writes o (((s.setOperand o (s.operand o + 1)).advance 1).setFlags z n h s.fC)
  rw [State.operand_setFlags, State.operand_advance, State.operand_setOperand, BitVec.add_sub_cancel,
    State.setOperand_setFlags, State.setOperand_advance, State.fC_setFlags] at dec
  exact ⟨_, _, inc, dec, by simp, packFlags_bit4 .., State.readByte_setOperand_back s o _,
    fun q => by simpa using State.reg_setOperand_back s o _ q⟩

/-! ### Decimal adjust (R193) -/

theorem byte_add_toNat (x y : Byte) : byte (x.toNat + y.toNat) = x + y := by
  rw [byte, BitVec.ofNat_add, BitVec.ofNat_toNat, BitVec.ofNat_toNat, BitVec.setWidth_eq, BitVec.setWidth_eq]

/-- Flags of R193 and the result as numbers; `low` and `high` say which adjustments apply. -/
theorem daaFlags_eq {acc res : Byte} {n h c low high : Bool} (lowTest : (h || (!n && acc.toNat % 16 > 9)) = low)
    (highTest : (c || (!n && acc.toNat > 0x99)) = high)
    (result : (if n then BitVec.ofInt 8 (acc.toNat - (6 * low.toNat + 0x60 * high.toNat : Nat))
      else byte (acc.toNat + (6 * low.toNat + 0x60 * high.toNat))) = res) :
    daaFlags acc n h c = (res, flagByte (res = 0) n false high) := by
  have adjust : 6 * low.toNat + 0x60 * high.toNat =
      ((if low then 0x06#8 else 0#8) ||| (if high then 0x60#8 else 0#8)).toNat := by
    cases low <;> cases high <;> rfl
  rw [adjust, ← sub_eq_ofInt, byte_add_toNat, ← lowTest, ← highTest] at result
  rw [flagByte_eq_packFlags, ← result, ← highTest]
  rfl

/-- `DAA` writes what `daaFlags` makes of `A` and `F`. -/
theorem exec_daa_eq {s : State} {res flags : Byte} {n h c : Bool} (flagN : s.fN = n) (flagH : s.fH = h) (flagC : s.fC = c)
    (adjusts : daaFlags s.a n h c = (res, flags)) :
    exec .daa s = .next { s with a := res, f := flags, pc := s.pc + 1 } := by
  subst flagN flagH flagC
  change exec_daa s = _
  rw [exec_daa, adjusts]
  rfl

/-- Settles O37: both tests use the old `A`. -/
theorem decimalAdjust : Obligations.DecimalAdjust :=
  ⟨encodedAs_one rfl rfl rfl, fun _ => exec_daa_eq rfl rfl rfl (daaFlags_eq rfl rfl rfl)⟩

/-! ### Complement and carry flag (R194 to R196) -/

/-- Complementing a byte is subtracting it from 255. -/
theorem xor_ones_eq_byte (v : Byte) : v ^^^ 0xFF#8 = byte (255 - v.toNat) := by
  apply BitVec.eq_of_toNat_eq
  calc (v ^^^ 0xFF#8).toNat
      = (~~~v).toNat := congrArg BitVec.toNat BitVec.xor_allOnes
    _ = 255 - v.toNat := BitVec.toNat_not
    _ = (byte (255 - v.toNat)).toNat := (Nat.mod_eq_of_lt (by omega)).symm

/-- Settles O39: the three write flags that the model packs, `CPL` also `A`. -/
theorem complementAndCarryFlag : Obligations.ComplementAndCarryFlag := by
  intro s z c
  simp only [← xor_ones_eq_byte, flagByte_eq_packFlags]
  exact ⟨⟨encodedAs_one rfl rfl rfl, rfl⟩, ⟨encodedAs_one rfl rfl rfl, rfl⟩, ⟨encodedAs_one rfl rfl rfl, rfl⟩⟩

end Sys2Proof.Machine
end

section
/-! Decimal arithmetic: addition or subtraction, then `DAA` (spec R181, R183, R193). -/

namespace Sys2Proof.Machine

open Sys2Proof.Claims

/-! ### The flag byte of the statements -/

@[simp] theorem flagByte_bit6 (z n h c : Bool) : (flagByte z n h c).getLsbD 6 = n := by
  rw [flagByte_eq_packFlags, packFlags_bit6]

@[simp] theorem flagByte_bit5 (z n h c : Bool) : (flagByte z n h c).getLsbD 5 = h := by
  rw [flagByte_eq_packFlags, packFlags_bit5]

@[simp] theorem flagByte_bit4 (z n h c : Bool) : (flagByte z n h c).getLsbD 4 = c := by
  rw [flagByte_eq_packFlags, packFlags_bit4]

/-! ### Packed decimal sums and differences, before and after the adjustment -/

theorem bcd_toNat {n : Nat} (two : n < 100) : (bcd n).toNat = 16 * (n / 10) + n % 10 :=
  Nat.mod_eq_of_lt (by omega)

/-- Two digits carry when their sum as bytes leaves the digits 0 to 9, by a carry out of bit 3 or not. -/
theorem bcd_add_low {x y : Nat} (hx : x < 100) (hy : y < 100) :
    (bcd x).toNat % 16 + (bcd y).toNat % 16 > 0xF ∨ ((bcd x).toNat + (bcd y).toNat) % 256 % 16 > 9 ↔
      10 ≤ x % 10 + y % 10 := by
  rw [bcd_toNat hx, bcd_toNat hy]
  omega

/-- Two numbers carry when their sum as bytes is above 0x99, with a carry out of bit 7 or not. -/
theorem bcd_add_high {x y : Nat} (hx : x < 100) (hy : y < 100) :
    (bcd x).toNat + (bcd y).toNat > 0xFF ∨ ((bcd x).toNat + (bcd y).toNat) % 256 > 0x99 ↔ 100 ≤ x + y := by
  calc (bcd x).toNat + (bcd y).toNat > 0xFF ∨ ((bcd x).toNat + (bcd y).toNat) % 256 > 0x99
      ↔ (bcd x).toNat + (bcd y).toNat > 0x99 := by omega
    _ ↔ 100 ≤ x + y := by
        rw [bcd_toNat hx, bcd_toNat hy]
        omega

/-- With the two adjustments the sum of the bytes is the packed decimal sum. -/
theorem bcd_add {x y : Nat} (hx : x < 100) (hy : y < 100) :
    byte (((bcd x).toNat + (bcd y).toNat) % 256 +
      (6 * (decide (10 ≤ x % 10 + y % 10)).toNat + 0x60 * (decide (100 ≤ x + y)).toNat)) = bcd ((x + y) % 100) := by
  apply BitVec.eq_of_toNat_eq
  rw [byte_toNat, bcd_toNat hx, bcd_toNat hy, bcd_toNat (Nat.mod_lt _ (Nat.succ_pos 99))]
  -- Four cases: each adjustment applies or not.
  by_cases low : 10 ≤ x % 10 + y % 10 <;> by_cases high : 100 ≤ x + y <;>
    simp only [low, high, decide_true, decide_false, Bool.toNat_true, Bool.toNat_false] <;> omega

/-- The low digits borrow when bit 4 does. -/
theorem bcd_sub_low {x y : Nat} (hx : x < 100) (hy : y < 100) :
    (bcd x).toNat % 16 < (bcd y).toNat % 16 ↔ x % 10 < y % 10 := by
  rw [bcd_toNat hx, bcd_toNat hy]
  omega

/-- The numbers borrow when the bytes do. -/
theorem bcd_sub_high {x y : Nat} (hx : x < 100) (hy : y < 100) : (bcd x).toNat < (bcd y).toNat ↔ x < y := by
  rw [bcd_toNat hx, bcd_toNat hy]
  omega

/-- With the two adjustments taken off, the difference of the bytes is the packed decimal difference. -/
theorem bcd_sub {x y : Nat} (hx : x < 100) (hy : y < 100) :
    BitVec.ofInt 8 ((BitVec.ofInt 8 ((bcd x).toNat - (bcd y).toNat)).toNat -
      (6 * (decide (x % 10 < y % 10)).toNat + 0x60 * (decide (x < y)).toNat : Nat)) = bcd ((x + 100 - y) % 100) := by
  apply BitVec.eq_of_toNat_eq
  rw [BitVec.toNat_ofInt, BitVec.toNat_ofInt, bcd_toNat hx, bcd_toNat hy, bcd_toNat (Nat.mod_lt _ (Nat.succ_pos 99))]
  -- Four cases: each adjustment applies or not.
  by_cases low : x % 10 < y % 10 <;> by_cases high : x < y <;>
    simp only [low, high, decide_true, decide_false, Bool.toNat_true, Bool.toNat_false] <;> omega

/-- What `DAA` makes of the sum and the flags of `ADD`. -/
theorem daaFlags_sum {x y : Nat} (hx : x < 100) (hy : y < 100) :
    daaFlags (byte ((bcd x).toNat + (bcd y).toNat)) false (decide ((bcd x).toNat % 16 + (bcd y).toNat % 16 > 0xF))
        (decide ((bcd x).toNat + (bcd y).toNat > 0xFF)) =
      (bcd ((x + y) % 100), flagByte (bcd ((x + y) % 100) = 0) false false (100 ≤ x + y)) :=
  daaFlags_eq ((Bool.decide_or ..).symm.trans (decide_eq_decide.2 (bcd_add_low hx hy)))
    ((Bool.decide_or ..).symm.trans (decide_eq_decide.2 (bcd_add_high hx hy))) (bcd_add hx hy)

/-- What `DAA` makes of the difference and the flags of `SUB`. -/
theorem daaFlags_difference {x y : Nat} (hx : x < 100) (hy : y < 100) :
    daaFlags (BitVec.ofInt 8 ((bcd x).toNat - (bcd y).toNat)) true (decide ((bcd x).toNat % 16 < (bcd y).toNat % 16))
        (decide ((bcd x).toNat < (bcd y).toNat)) =
      (bcd ((x + 100 - y) % 100), flagByte (bcd ((x + 100 - y) % 100) = 0) true false (x < y)) :=
  daaFlags_eq ((Bool.or_false _).trans (decide_eq_decide.2 (bcd_sub_low hx hy)))
    ((Bool.or_false _).trans (decide_eq_decide.2 (bcd_sub_high hx hy))) (bcd_sub hx hy)

/-- Settles O38: what `DAA` reads is what the addition or subtraction wrote. -/
theorem decimalArithmetic : Obligations.DecimalArithmetic := by
  intro s x y hx hy acc
  obtain ⟨⟨-, -, addImm⟩, -⟩ := addWithAndWithoutCarry
  obtain ⟨⟨-, -, subImm⟩, -⟩ := subtractAndCompare
  obtain ⟨-, added⟩ := addImm (bcd y)
  obtain ⟨-, subtracted⟩ := subImm (bcd y)
  have sum := daaFlags_sum hx hy
  have difference := daaFlags_difference hx hy
  rw [← acc] at sum difference
  exact ⟨⟨_, _, added s, exec_daa_eq (flagByte_bit6 ..) (flagByte_bit5 ..) (flagByte_bit4 ..) sum, rfl, flagByte_bit4 ..⟩,
    ⟨_, _, subtracted s, exec_daa_eq (flagByte_bit6 ..) (flagByte_bit5 ..) (flagByte_bit4 ..) difference, rfl,
      flagByte_bit4 ..⟩⟩

end Sys2Proof.Machine
end

section
/-! The 16-bit arithmetic: adding a pair to `HL`, increment and decrement of a pair (spec R220 to R222). -/

namespace Sys2Proof.Machine

open Sys2Proof.Claims

/-! ### The families over the pair codes (R94) -/

theorem encodedAs_addHLPair (p : Pair) : encodedAs [byte (0x09 + 16 * pairCode p)] (addHLPair p) := by
  cases p <;> exact encodedAs_one rfl rfl rfl

theorem encodedAs_incPair (p : Pair) : encodedAs [byte (0x03 + 16 * pairCode p)] (incPair p) := by
  cases p <;> exact encodedAs_one rfl rfl rfl

theorem encodedAs_decPair (p : Pair) : encodedAs [byte (0x0B + 16 * pairCode p)] (decPair p) := by
  cases p <;> exact encodedAs_one rfl rfl rfl

theorem exec_addHLPair (p : Pair) (s : State) : exec (addHLPair p) s = addHLStep p s := by
  cases p <;> rfl

theorem exec_incPair (p : Pair) (s : State) : exec (incPair p) s = incPairStep p s := by
  cases p <;> rfl

theorem exec_decPair (p : Pair) (s : State) : exec (decPair p) s = decPairStep p s := by
  cases p <;> rfl

/-! ### Addition to `HL` (R220) -/

/-- The sum reduced modulo 65536 has the high byte of the sum reduced modulo 256 after the division. -/
theorem hiByte_add (x v : Word) : hiByte (x + v) = byte ((x.toNat + v.toNat) / 256) := by
  apply BitVec.eq_of_toNat_eq
  rw [hiByte_toNat, BitVec.toNat_add, byte_toNat]
  omega

theorem loByte_add (x v : Word) : loByte (x + v) = byte (x.toNat + v.toNat) := by
  apply BitVec.eq_of_toNat_eq
  rw [loByte_toNat, BitVec.toNat_add, byte_toNat]
  omega

/-- Sum and carries of R220. -/
theorem addWordFlags_eq (x v : Word) (z : Bool) :
    addWordFlags x v z =
      (x + v, flagByte z false (x.toNat % 4096 + v.toNat % 4096 > 0xFFF) (x.toNat + v.toNat > 0xFFFF)) := by
  rw [flagByte_eq_packFlags]
  rfl

theorem addHLStep_eq (p : Pair) (s : State) :
    addHLStep p s = .next { s with
      h := byte ((s.hl.toNat + (s.pair p).toNat) / 256)
      l := byte (s.hl.toNat + (s.pair p).toNat)
      f := flagByte s.fZ false (s.hl.toNat % 4096 + (s.pair p).toNat % 4096 > 0xFFF)
        (s.hl.toNat + (s.pair p).toNat > 0xFFFF)
      pc := s.pc + 1 } := by
  rw [addHLStep, addWordFlags_eq, ← hiByte_add, ← loByte_add]
  rfl

/-! ### The statements -/

/-- Settles O40: the four are one step, which reads both operands before it writes `HL`. -/
theorem addPairToHL : Obligations.AddPairToHL := by
  intro s p v hl sum
  have operand : s.pair p = v := by cases p <;> rfl
  refine ⟨encodedAs_addHLPair p, ?_⟩
  rw [exec_addHLPair, addHLStep_eq, operand]
  rfl

/-- Settles O41: the eight are two steps over the pairs, and a step writes the pair as its two halves. -/
theorem incrementDecrementPair : Obligations.IncrementDecrementPair := by
  intro s bc de hl
  simp only [high_eq_hiByte, low_eq_loByte]
  exact ⟨fun p => ⟨encodedAs_incPair p, encodedAs_decPair p⟩,
    exec_incPair .bc s, exec_incPair .de s, exec_incPair .hl s, exec_incPair .sp s,
    exec_decPair .bc s, exec_decPair .de s, exec_decPair .hl s, exec_decPair .sp s⟩

end Sys2Proof.Machine
end

section
/-! Control transfer: jumps, calls, restarts and returns, their encodings and where they go (spec R230 to R242). -/

namespace Sys2Proof.Machine

open Sys2Proof.Claims

/-! ### The families over the condition codes and the restart index (R95, R240) -/

theorem encodedAs_jpCond (cc : Cond) (v : Word) :
    encodedAs [byte (0xC2 + 8 * condCode cc), low v, high v] (jpCond cc v) := by
  cases cc <;> exact encodedAs_word v rfl rfl fun _ _ => rfl

theorem encodedAs_jrCond (cc : Cond) (v : Byte) : encodedAs [byte (0x20 + 8 * condCode cc), v] (jrCond cc v) := by
  cases cc <;> exact encodedAs_two rfl rfl rfl

theorem encodedAs_callCond (cc : Cond) (v : Word) :
    encodedAs [byte (0xC4 + 8 * condCode cc), low v, high v] (callCond cc v) := by
  cases cc <;> exact encodedAs_word v rfl rfl fun _ _ => rfl

theorem encodedAs_retCond (cc : Cond) : encodedAs [byte (0xC0 + 8 * condCode cc)] (retCond cc) := by
  cases cc <;> exact encodedAs_one rfl rfl rfl

theorem encodedAs_rst (y : Fin 8) : encodedAs [byte (0xC7 + 8 * y.val)] (rst y) := by
  fin_cases y <;> exact encodedAs_one rfl rfl rfl

/-- The model's test of a condition is the test on the bits of `F` (R95, R241). -/
theorem State.cond_eq_condHolds (s : State) (cc : Cond) : s.cond cc = condHolds cc s.f := by
  cases cc with
  | nz => exact (beq_false _).symm
  | z => rfl
  | nc => exact (beq_false _).symm
  | c => rfl

theorem exec_jpCond (cc : Cond) (v : Word) (s : State) : exec (jpCond cc v) s = jumpIf (condHolds cc s.f) v 3 s := by
  rw [← State.cond_eq_condHolds]
  cases cc <;> rfl

theorem exec_jrCond (cc : Cond) (v : Byte) (s : State) :
    exec (jrCond cc v) s = jumpIf (condHolds cc s.f) (relativeTarget v s) 2 s := by
  rw [← State.cond_eq_condHolds]
  cases cc <;> rfl

theorem exec_callCond (cc : Cond) (v : Word) (s : State) :
    exec (callCond cc v) s = callIf (condHolds cc s.f) v 3 s := by
  rw [← State.cond_eq_condHolds]
  cases cc <;> rfl

theorem exec_retCond (cc : Cond) (s : State) : exec (retCond cc) s = returnIf (condHolds cc s.f) s := by
  rw [← State.cond_eq_condHolds]
  cases cc <;> rfl

theorem exec_rst (y : Fin 8) (s : State) : exec (rst y) s = callIf true (BitVec.ofNat 16 (8 * y.val)) 1 s := by
  fin_cases y <;> rfl

/-! ### What a transfer does -/

/-- A jump changes `PC` only, whether it is taken or not. -/
theorem jumpIf_eq (taken : Bool) (target : Word) (len : Nat) (s : State) :
    jumpIf taken target len s = .next { s with pc := if taken then target else s.pc + BitVec.ofNat 16 len } := by
  cases taken <;> rfl

/-- The displacement counts from the end of the instruction, modulo 65536 (R234, R235). -/
theorem relativeTarget_eq (e8 : Byte) (s : State) :
    relativeTarget e8 s = BitVec.ofInt 16 (s.pc.toNat + 2 + e8.toInt) := by
  calc s.pc + 2 + sext16 e8
      = s.pc + sext16 e8 + 2 := add_right_comm ..
    _ = BitVec.ofInt 16 (s.pc.toNat + e8.toInt) + BitVec.ofInt 16 2 := by rw [add_sext16]; rfl
    _ = BitVec.ofInt 16 (s.pc.toNat + 2 + e8.toInt) := by rw [← BitVec.ofInt_add, Int.add_right_comm]

/-- A taken call is one push of the address of the next instruction; that the jump comes after the push makes no difference. -/
theorem callIf_taken (target : Word) (len : Nat) (s : State) :
    callIf true target len s = .next ((s.jump target).push16 (s.pc + BitVec.ofNat 16 len)) := rfl

theorem returnIf_taken (s : State) : returnIf true s = .next { s with sp := s.sp + 2, pc := s.stackTop } := rfl

theorem pushes_of_callIf {i : Instr} {s : State} {target : Word} {len : Nat}
    (answers : exec i s = callIf true target len s) :
    pushes i s (s.pc + BitVec.ofNat 16 len) { s with sp := s.sp - 2, pc := target } :=
  pushes_of_push16 (answers.trans (callIf_taken target len s)) rfl rfl

/-- A return right after a taken call pops the address that the call pushed (R166). -/
theorem returnIf_undoes_callIf (target : Word) (len : Nat) (s : State) :
    ∃ t u, callIf true target len s = .next t ∧ returnIf true t = .next u ∧ { u with mem := s.mem } = s.advance len := by
  refine ⟨_, _, callIf_taken target len s, returnIf_taken _, ?_⟩
  rw [State.stackTop_push16, State.push16_sp, BitVec.sub_add_cancel]
  rfl

/-! ### The statements -/

/-- Settles O43: the three are `jumpIf`, which changes `PC` only. -/
theorem conditionalAndRelativeJumps : Obligations.ConditionalAndRelativeJumps := by
  intro s cc a16 e8 target
  have relative : relativeTarget e8 s = target := relativeTarget_eq e8 s
  refine ⟨⟨encodedAs_jpCond cc a16, ?_⟩, ⟨encodedAs_two rfl rfl rfl, ?_⟩, ⟨encodedAs_jrCond cc e8, ?_⟩⟩
  · rw [exec_jpCond, jumpIf_eq]
    rfl
  · rw [← relative]
    rfl
  · rw [exec_jrCond, jumpIf_eq, relative]
    rfl

/-- Settles O44: the three are `callIf`, which pushes when it is taken and else only moves `PC`. -/
theorem callAndRestart : Obligations.CallAndRestart := by
  intro s cc a16 y
  refine ⟨⟨encodedAs_word a16 rfl rfl fun _ _ => rfl, pushes_of_callIf rfl⟩,
    ⟨encodedAs_callCond cc a16, fun taken => pushes_of_callIf ?_, fun untaken => ?_⟩,
    ⟨encodedAs_rst y, pushes_of_callIf (exec_rst y s)⟩⟩
  · rw [exec_callCond, taken]
  · rw [exec_callCond, untaken]
    rfl

/-- Settles O45: both are `returnIf`, which reads the two bytes at `SP` as one word. -/
theorem returnFromSubroutine : Obligations.ReturnFromSubroutine := fun s cc =>
  ⟨⟨encodedAs_one rfl rfl rfl, rfl⟩, encodedAs_retCond cc, exec_retCond cc s⟩

/-- Settles O46: `RET` is the taken return, `CALL` and `RST` are taken calls. -/
theorem returnUndoesCall : Obligations.ReturnUndoesCall := by
  intro s a16 y
  rw [exec_rst]
  exact ⟨returnIf_undoes_callIf a16 3 s, returnIf_undoes_callIf _ 1 s⟩

/-- Settles O42: `NOP` moves `PC` on, the two jumps are taken jumps; `HL` is the pair itself, not what memory holds there. -/
theorem nopAndAbsoluteJumps : Obligations.NopAndAbsoluteJumps := fun s a16 =>
  ⟨⟨encodedAs_one rfl rfl rfl, rfl⟩, ⟨encodedAs_word a16 rfl rfl fun _ _ => rfl, jumpIf_eq true a16 3 s⟩,
    ⟨encodedAs_one rfl rfl rfl, jumpIf_eq true s.hl 1 s⟩⟩

end Sys2Proof.Machine
end

section
/-! Rotates, shifts and bit operations: their encodings, results and carries as numbers, and the extended table read by its fields
(spec R97, R105, R260 to R275). -/

namespace Sys2Proof.Machine

open Sys2Proof.Claims

/-! ### The families over operation, bit number and operand (R93, R97, R105) -/

theorem encodedAs_rotOperand (op : RotOp) (o : Operand8) :
    encodedAs [0xCB#8, byte (8 * rotCode op + operandCode o)] (rotOperand op o) := by
  cases op <;> rcases o with ⟨⟨⟩⟩ | _ <;> exact encodedAs_two rfl rfl rfl

theorem encodedAs_bitOperand (b : Fin 8) (o : Operand8) :
    encodedAs [0xCB#8, byte (0x40 + 8 * b.val + operandCode o)] (bitOperand b o) := by
  fin_cases b <;> rcases o with ⟨⟨⟩⟩ | _ <;> exact encodedAs_two rfl rfl rfl

theorem encodedAs_resOperand (b : Fin 8) (o : Operand8) :
    encodedAs [0xCB#8, byte (0x80 + 8 * b.val + operandCode o)] (resOperand b o) := by
  fin_cases b <;> rcases o with ⟨⟨⟩⟩ | _ <;> exact encodedAs_two rfl rfl rfl

theorem encodedAs_setOperand (b : Fin 8) (o : Operand8) :
    encodedAs [0xCB#8, byte (0xC0 + 8 * b.val + operandCode o)] (setOperand b o) := by
  fin_cases b <;> rcases o with ⟨⟨⟩⟩ | _ <;> exact encodedAs_two rfl rfl rfl

theorem exec_rotOperand (op : RotOp) (o : Operand8) (s : State) : exec (rotOperand op o) s = rotStep op o s := by
  cases op <;> rcases o with ⟨⟨⟩⟩ | _ <;> rfl

theorem exec_bitOperand (b : Fin 8) (o : Operand8) (s : State) : exec (bitOperand b o) s = bitStep b o s := by
  fin_cases b <;> rcases o with ⟨⟨⟩⟩ | _ <;> rfl

theorem exec_resOperand (b : Fin 8) (o : Operand8) (s : State) : exec (resOperand b o) s = resStep b o s := by
  fin_cases b <;> rcases o with ⟨⟨⟩⟩ | _ <;> rfl

theorem exec_setOperand (b : Fin 8) (o : Operand8) (s : State) : exec (setOperand b o) s = setStep b o s := by
  fin_cases b <;> rcases o with ⟨⟨⟩⟩ | _ <;> rfl

/-! ### Bits and shifts as numbers -/

/-- A bit of a byte as a number. -/
theorem getLsbD_toNat (v : Byte) (k : Nat) : (v.getLsbD k).toNat = v.toNat / 2 ^ k % 2 := Nat.toNat_testBit ..

/-- The bit that a left shift moves out. -/
theorem bit7_toNat (v : Byte) : (v.getLsbD 7).toNat = v.toNat / 128 := by
  rw [getLsbD_toNat]
  exact Nat.mod_eq_of_lt (Nat.div_lt_of_lt_mul v.isLt)

theorem bit7_eq_decide (v : Byte) : v.getLsbD 7 = decide (v.toNat / 128 = 1) := by
  rw [← bit7_toNat]
  cases v.getLsbD 7 <;> rfl

/-- The bit that a right shift moves out. -/
theorem bit0_toNat (v : Byte) : (v.getLsbD 0).toNat = v.toNat % 2 := by
  rw [getLsbD_toNat, Nat.pow_zero, Nat.div_one]

theorem bit0_eq_decide (v : Byte) : v.getLsbD 0 = decide (v.toNat % 2 = 1) := by
  rw [← bit0_toNat]
  cases v.getLsbD 0 <;> rfl

/-- A multiple of `2 ^ k` and a number below `2 ^ k` have no common bit. -/
theorem byte_or_byte {k b : Nat} (a : Nat) (small : b < 2 ^ k) : byte (2 ^ k * a) ||| byte b = byte (2 ^ k * a + b) := by
  rw [Nat.two_pow_add_eq_or_of_lt small]
  exact (BitVec.ofNat_or ..).symm

theorem shiftLeft_eq_byte (v : Byte) (k : Nat) : v <<< k = byte (2 ^ k * v.toNat) := by
  apply BitVec.eq_of_toNat_eq
  rw [BitVec.toNat_shiftLeft, Nat.shiftLeft_eq, Nat.mul_comm, byte_toNat]

theorem shiftRight_eq_byte (v : Byte) (k : Nat) : v >>> k = byte (v.toNat / 2 ^ k) := by
  apply BitVec.eq_of_toNat_eq
  rw [BitVec.toNat_ushiftRight, Nat.shiftRight_eq_div_pow, byte_toNat]
  exact (Nat.mod_eq_of_lt (Nat.lt_of_le_of_lt (Nat.div_le_self ..) v.isLt)).symm

theorem shiftLeft_or_bit (v : Byte) (c : Bool) :
    (v <<< 1) ||| BitVec.ofNat 8 c.toNat = byte (2 * v.toNat + c.toNat) := by
  rw [shiftLeft_eq_byte]
  exact byte_or_byte v.toNat c.toNat_lt

theorem shiftRight_or_bit (v : Byte) (c : Bool) :
    (v >>> 1) ||| BitVec.ofNat 8 (c.toNat * 0x80) = byte (v.toNat / 2 + 128 * c.toNat) := by
  have small : v.toNat / 2 < 2 ^ 7 := Nat.div_lt_of_lt_mul v.isLt
  rw [shiftRight_eq_byte, BitVec.or_comm, Nat.mul_comm, Nat.add_comm]
  exact byte_or_byte c.toNat small

/-- The bits that the left shift moves out count a multiple of 256. -/
theorem swap_eq_byte (v : Byte) : (v <<< 4) ||| (v >>> 4) = byte (16 * (v.toNat % 16) + v.toNat / 16) := by
  have small : v.toNat / 16 < 2 ^ 4 := Nat.div_lt_of_lt_mul v.isLt
  have kept : byte (2 ^ 4 * v.toNat) = byte (2 ^ 4 * (v.toNat % 16)) := by
    apply BitVec.eq_of_toNat_eq
    rw [byte_toNat, byte_toNat]
    omega
  rw [shiftLeft_eq_byte, shiftRight_eq_byte, kept]
  exact byte_or_byte (v.toNat % 16) small

/-- What `SRA` masks out is its old bit 7, in place. -/
theorem and_bit7 (v : Byte) : v &&& 0x80#8 = BitVec.ofNat 8 ((v.getLsbD 7).toNat * 0x80) := by
  have mask := BitVec.and_twoPow v 7
  exact mask.trans (by cases v.getLsbD 7 <;> rfl)

/-! ### Rotates and shifts -/

/-- Result and carry out of R265 to R272 as numbers, operation by operation. -/
theorem rotate_eq (op : RotOp) (v : Byte) (carry : Bool) :
    rotate op v carry =
      (byte (rotValue op v.toNat carry.toNat).1, decide ((rotValue op v.toNat carry.toNat).2 = 1)) := by
  cases op with
  | rlc => exact Prod.ext (by rw [rotValue, ← bit7_toNat]; exact shiftLeft_or_bit ..) (bit7_eq_decide v)
  | rrc => exact Prod.ext (by rw [rotValue, ← bit0_toNat]; exact shiftRight_or_bit ..) (bit0_eq_decide v)
  | rl => exact Prod.ext (shiftLeft_or_bit ..) (bit7_eq_decide v)
  | rr => exact Prod.ext (shiftRight_or_bit ..) (bit0_eq_decide v)
  | sla => exact Prod.ext (shiftLeft_eq_byte v 1) (bit7_eq_decide v)
  | sra =>
    refine Prod.ext ?_ (bit0_eq_decide v)
    rw [rotate, rotValue, and_bit7, ← bit7_toNat]
    exact shiftRight_or_bit ..
  | swap => exact Prod.ext (swap_eq_byte v) rfl
  | srl => exact Prod.ext (shiftRight_eq_byte v 1) (bit0_eq_decide v)

/-- fZ is that of the result, fC the bit moved out. -/
theorem rotFlags_eq (op : RotOp) (v : Byte) (carry : Bool) :
    rotFlags op v carry = (byte (rotValue op v.toNat carry.toNat).1,
      flagByte ((rotValue op v.toNat carry.toNat).1 % 256 = 0) false false
        ((rotValue op v.toNat carry.toNat).2 = 1)) := by
  rw [rotFlags, rotate_eq, flagByte_eq_packFlags, ← decide_eq_decide.2 (byte_eq_zero_iff _)]
  rfl

/-- As `rotFlags_eq`, but fZ is 0 (R260 to R263). -/
theorem rotAccFlags_eq (op : RotOp) (v : Byte) (carry : Bool) :
    rotAccFlags op v carry = (byte (rotValue op v.toNat carry.toNat).1,
      flagByte false false false ((rotValue op v.toNat carry.toNat).2 = 1)) := by
  rw [rotAccFlags, rotate_eq, flagByte_eq_packFlags]

theorem rotStep_eq (op : RotOp) (o : Operand8) (s : State) :
    rotStep op o s = .next (State.setOperand { s with
      f := flagByte ((rotValue op (s.operand o).toNat s.fC.toNat).1 % 256 = 0) false false
        ((rotValue op (s.operand o).toNat s.fC.toNat).2 = 1)
      pc := s.pc + 2 } o (byte (rotValue op (s.operand o).toNat s.fC.toNat).1)) := by
  rw [rotStep, rotFlags_eq]
  rfl

theorem rotAccStep_eq (op : RotOp) (s : State) :
    rotAccStep op s = .next { s with
      a := byte (rotValue op s.a.toNat s.fC.toNat).1
      f := flagByte false false false ((rotValue op s.a.toNat s.fC.toNat).2 = 1)
      pc := s.pc + 1 } := by
  rw [rotAccStep, rotAccFlags_eq]
  rfl

/-- Settles O48: the sixteen forms are one step of the operand, which at `HL` is one write to memory. -/
theorem rotatesAndShifts : Obligations.RotatesAndShifts := fun s op =>
  ⟨fun r => ⟨encodedAs_rotOperand op (.reg r), (exec_rotOperand op (.reg r) s).trans (rotStep_eq op (.reg r) s)⟩,
    encodedAs_rotOperand op .atHL,
    stores_of_writeByte ((exec_rotOperand op .atHL s).trans (rotStep_eq op .atHL s)) rfl⟩

/-- Settles O47: the four are the step of `A` with the flags that clear fZ. -/
theorem accumulatorRotates : Obligations.AccumulatorRotates := fun s =>
  ⟨⟨encodedAs_one rfl rfl rfl, rotAccStep_eq .rlc s⟩, ⟨encodedAs_one rfl rfl rfl, rotAccStep_eq .rl s⟩,
    ⟨encodedAs_one rfl rfl rfl, rotAccStep_eq .rrc s⟩, ⟨encodedAs_one rfl rfl rfl, rotAccStep_eq .rr s⟩⟩

/-! ### Bit operations -/

/-- fZ is the complement of the tested bit, the others are fixed or kept (R273). -/
theorem bitFlags_eq (b : Fin 8) (v : Byte) (carry : Bool) :
    bitFlags b v carry = flagByte (v.toNat / 2 ^ b.val % 2 = 0) false true carry := by
  have complement : (!v.getLsbD b.val) = decide (v.toNat / 2 ^ b.val % 2 = 0) := by
    rw [← getLsbD_toNat]
    cases v.getLsbD b.val <;> rfl
  rw [bitFlags, complement, flagByte_eq_packFlags]

theorem bitStep_eq (b : Fin 8) (o : Operand8) (s : State) :
    bitStep b o s = .next { s with
      f := flagByte ((s.operand o).toNat / 2 ^ b.val % 2 = 0) false true s.fC, pc := s.pc + 2 } := by
  rw [bitStep, bitFlags_eq]
  rfl

theorem getLsbD_clearBit (v : Byte) (b : Fin 8) {k : Nat} (inside : k < 8) :
    (v &&& (0xFF#8 ^^^ bitMask b)).getLsbD k = if k = b.val then false else v.getLsbD k := by
  have ones : (0xFF#8).getLsbD k = true := (BitVec.getLsbD_allOnes (v := 8)).trans (decide_eq_true inside)
  rw [BitVec.getLsbD_and, BitVec.getLsbD_xor, ones, bitMask, BitVec.getLsbD_twoPow]
  by_cases same : k = b.val
  · simp [same]
  · simp [same, Ne.symm same]

theorem getLsbD_setBit (v : Byte) (b : Fin 8) (k : Nat) :
    (v ||| bitMask b).getLsbD k = if k = b.val then true else v.getLsbD k := by
  rw [BitVec.getLsbD_or, bitMask, BitVec.getLsbD_twoPow]
  by_cases same : k = b.val
  · simp [same]
  · simp [same, Ne.symm same]

/-- Settles O49: the step of the operand, of which only the flags are written. -/
theorem bitTest : Obligations.BitTest := by
  intro s b o v
  have operand : s.operand o = v := by cases o <;> rfl
  refine ⟨encodedAs_bitOperand b o, ?_⟩
  rw [exec_bitOperand, bitStep_eq, operand]
  rfl

/-- Settles O50: the two steps of the operand combine it with the mask of its bit; at `HL` that is one write to memory. -/
theorem bitResetAndSet : Obligations.BitResetAndSet := fun s b =>
  ⟨fun o => ⟨encodedAs_resOperand b o, encodedAs_setOperand b o⟩,
    fun r => ⟨_, _, fun _ => getLsbD_clearBit (s.reg r) b, fun k _ => getLsbD_setBit (s.reg r) b k,
      exec_resOperand b (.reg r) s, exec_setOperand b (.reg r) s⟩,
    ⟨_, _, fun _ => getLsbD_clearBit (s.readByte s.hl) b, fun k _ => getLsbD_setBit (s.readByte s.hl) b k,
      stores_of_writeByte (exec_resOperand b .atHL s) rfl, stores_of_writeByte (exec_setOperand b .atHL s) rfl⟩⟩

/-! ### The extended table (R105, R264)

A row of the extended table holds one operation, its columns the operands in the order of their codes. -/

theorem extendedRot_eq {y : Nat} (h : y < 8) :
    extendedRot y = (List.range 8).map fun z => rotOperand (rotOfCode y) (operandOfCode z) := by
  interval_cases y <;> rfl

theorem extendedBit_eq {y : Nat} (h : y < 8) :
    extendedBit y = (List.range 8).map fun z => bitOperand (fin8 y) (operandOfCode z) := by
  interval_cases y <;> rfl

theorem extendedRes_eq {y : Nat} (h : y < 8) :
    extendedRes y = (List.range 8).map fun z => resOperand (fin8 y) (operandOfCode z) := by
  interval_cases y <;> rfl

theorem extendedSet_eq {y : Nat} (h : y < 8) :
    extendedSet y = (List.range 8).map fun z => setOperand (fin8 y) (operandOfCode z) := by
  interval_cases y <;> rfl

theorem getD_map_range {z : Nat} (h : z < 8) (f : Nat → Instr) : ((List.range 8).map f).getD z .nop = f z := by
  simp [h]

/-- The extended table by bytes is the extended table by fields. -/
theorem decodeExtended_eq_byFields (op2 : Byte) : decodeExtended op2 = decodeExtendedByFields op2 := by
  have row : op2.toNat / 8 % 8 < 8 := Nat.mod_lt _ (by decide)
  have column : op2.toNat % 8 < 8 := Nat.mod_lt _ (by decide)
  have x : field op2 6 2 = op2.toNat / 64 := Nat.mod_eq_of_lt (Nat.div_lt_of_lt_mul op2.isLt)
  have y : field op2 3 3 = op2.toNat / 8 % 8 := rfl
  have z : field op2 0 3 = op2.toNat % 8 := congrArg (· % 8) (Nat.div_one _)
  rw [decodeExtended, extendedRow, decodeExtendedByFields, x, y, z, extendedRot_eq row, extendedBit_eq row,
    extendedRes_eq row, extendedSet_eq row]
  generalize op2.toNat / 64 = group
  match group with
  | 0 => exact getD_map_range column _
  | 1 => exact getD_map_range column _
  | 2 => exact getD_map_range column _
  | _ + 3 => exact getD_map_range column _

/-- The row `PREFIX` has the meaning of the instruction that the decoder reads (log 6). -/
theorem exec_prefixCB_eq (op2 : Byte) (s : State) : exec (.prefixCB op2) s = exec (decodeExtended op2) s := by
  rw [decodeExtended_eq_byFields]
  change exec_prefixCB op2 s = _
  rw [exec_prefixCB, decodeExtendedByFields]
  generalize field op2 6 2 = x
  match x with
  | 0 => exact (exec_rotOperand ..).symm
  | 1 => exact (exec_bitOperand ..).symm
  | 2 => exact (exec_resOperand ..).symm
  | _ + 3 => exact (exec_setOperand ..).symm

/-- Settles O51: the decoder and the row `PREFIX` both read the extended table, and every extended instruction ends past its
two bytes with the run status as it was. -/
theorem prefixDispatch : Obligations.PrefixDispatch := by
  intro op2 s
  obtain ⟨t, answers, -, status, -, -, pc⟩ := exec_prefixCB_sequential op2 s
  exact ⟨fun rest => decode_two op2 rest rfl, decodeExtended_eq_byFields op2, exec_prefixCB_eq op2 s,
    t, answers, pc, status⟩

end Sys2Proof.Machine
end

section
/-! The ticks of the PPU state by state, and that none of them counts a FIFO violation (spec R300 to R305, R309, R330,
R331, R335, R338). -/

namespace Sys2Proof.Machine

open Sys2Proof.Claims

/-! ### What the fetcher leaves alone -/

/-- With more than 8 pixels in the FIFO the push waits (R335). -/
theorem Ppu.fetcherStep_wait {u : Ppu} (m : Memory) (h : u.fstate = .pushToFifo) (full : ¬ u.fifo.length ≤ 8) :
    u.fetcherStep m = u := by
  have full' : ¬ u.fifoSize ≤ Config.fifoPushAtMost := full
  simp only [Ppu.fetcherStep, h, if_neg full']

/-- A fetcher step changes the fetcher and the FIFO only; it pushes only where eight pixels fit, so no violation is counted. -/
theorem Ppu.fetcherStep_frame (u : Ppu) (m : Memory) :
    { u.fetcherStep m with
      fstate := u.fstate, tileIndex := u.tileIndex, tileId := u.tileId, pix := u.pix, fifo := u.fifo } = u := by
  cases h : u.fstate with
  | readTileIndex => rw [Ppu.fetcherStep_readTileIndex m h, ← h]
  | readLowPlane => rw [Ppu.fetcherStep_readLowPlane m h, ← h]
  | readHighPlane => rw [Ppu.fetcherStep_readHighPlane m h, ← h]
  | pushToFifo =>
    by_cases room : u.fifo.length ≤ 8
    · rw [Ppu.fetcherStep_push m h room, ← h]
    · rw [Ppu.fetcherStep_wait m h room, ← h]

theorem Ppu.fetcherTick_frame (u : Ppu) (m : Memory) :
    { u.fetcherTick m with
      fstate := u.fstate, fticks := u.fticks, tileIndex := u.tileIndex, tileId := u.tileId, pix := u.pix
      fifo := u.fifo } = u := by
  by_cases h : u.fticks + 1 < 2
  · rw [Ppu.fetcherTick_count m h]
  · rw [Ppu.fetcherTick_step m h]
    exact congrArg (fun v : Ppu => { v with fticks := u.fticks }) (Ppu.fetcherStep_frame { u with fticks := 0 } m)

@[simp] theorem Ppu.fetcherTick_x (u : Ppu) (m : Memory) : (u.fetcherTick m).x = u.x := by
  have frame := congrArg Ppu.x (Ppu.fetcherTick_frame u m)
  exact frame

@[simp] theorem Ppu.fetcherTick_sink (u : Ppu) (m : Memory) : (u.fetcherTick m).sink = u.sink := by
  have frame := congrArg Ppu.sink (Ppu.fetcherTick_frame u m)
  exact frame

@[simp] theorem Ppu.fetcherTick_violations (u : Ppu) (m : Memory) : (u.fetcherTick m).violations = u.violations := by
  have frame := congrArg Ppu.violations (Ppu.fetcherTick_frame u m)
  exact frame

/-! ### No FIFO violation (R309, R338) -/

@[simp] theorem Ppu.showPixel_violations (u : Ppu) (p : Pixel) : (u.showPixel p).violations = u.violations := by
  by_cases last : u.x + 1 = 160
  · rw [Ppu.showPixel_last p last]
  · rw [Ppu.showPixel_within p last]

/-- The FIFO is popped only when it holds more than 8 pixels. -/
@[simp] theorem Ppu.drain_violations (u : Ppu) : u.drain.violations = u.violations := by
  by_cases h : u.fifo.length ≤ 8
  · rw [Ppu.drain_hold h]
  · obtain ⟨p, rest, fifo⟩ : ∃ p rest, u.fifo = p :: rest := List.exists_cons_of_length_pos (by omega)
    have above : 8 ≤ rest.length := by rw [fifo, List.length_cons] at h; omega
    rw [Ppu.drain_pop fifo above, Ppu.showPixel_violations]

theorem ppuTick_violations_hBlank {s : State} (mode : s.ppu.mode = .hBlank) :
    (ppuTick s).ppu.violations = s.ppu.violations := by
  by_cases lineEnd : s.ppu.ticks + 1 = 456
  · by_cases last : s.ppu.ly + 1 = 144
    · rw [ppuTick_hBlank_lastLine mode lineEnd last, State.writeLy_ppu]
    · rw [ppuTick_hBlank_lineEnd mode lineEnd last, State.writeLy_ppu]
  · rw [ppuTick_hBlank_wait mode lineEnd]

theorem ppuTick_violations_vBlank {s : State} (mode : s.ppu.mode = .vBlank) :
    (ppuTick s).ppu.violations = s.ppu.violations := by
  by_cases lineEnd : s.ppu.ticks + 1 = 456
  · by_cases last : s.ppu.ly = 153
    · rw [ppuTick_vBlank_frameEnd mode lineEnd last, State.writeLy_ppu]
    · rw [ppuTick_vBlank_lineEnd mode lineEnd last, State.writeLy_ppu]
  · rw [ppuTick_vBlank_wait mode lineEnd]

/-- No tick counts a violation, on the schedule or off it: pushes and pops are both guarded by the FIFO's size. -/
@[simp] theorem ppuTick_violations (s : State) : (ppuTick s).ppu.violations = s.ppu.violations := by
  cases mode : s.ppu.mode with
  | objectSearch =>
    by_cases last : s.ppu.ticks + 1 = 40
    · rw [ppuTick_fetcherStart mode last]
    · rw [ppuTick_search mode last]
  | pixelTransfer =>
    rw [ppuTick_pixelTransfer mode]
    simp only [Ppu.pixelTransferTick, Ppu.drain_violations, Ppu.fetcherTick_violations]
  | hBlank => exact ppuTick_violations_hBlank mode
  | vBlank => exact ppuTick_violations_vBlank mode

theorem driveTicks_violations (s : State) : (driveTicks s).ppu.violations = s.ppu.violations := by
  rcases driveTicks_cases s with tick | same
  · rw [tick, ppuTick_violations]
  · rw [same]

theorem fifoLevel_le (t : Nat) : fifoLevel t ≤ 15 := by
  unfold fifoLevel
  grind

/-- The bounds that the table of R309 puts on the FIFO and on the tile column. -/
theorem Ppu.onSchedule.bounds {u : Ppu} (h : u.onSchedule) : u.fifo.length ≤ 15 ∧ u.tileIndex ≤ 21 := by
  cases mode : u.mode with
  | objectSearch =>
    obtain ⟨-, -, -, size, index, -⟩ := (Ppu.onSchedule_objectSearch mode).1 h
    exact ⟨by omega, index⟩
  | pixelTransfer =>
    obtain ⟨-, upper, -, -, size, index, -⟩ := (Ppu.onSchedule_pixelTransfer mode).1 h
    exact ⟨size ▸ fifoLevel_le u.ticks, by omega⟩
  | hBlank =>
    obtain ⟨-, -, -, -, size, index, -⟩ := (Ppu.onSchedule_hBlank mode).1 h
    exact ⟨by omega, by omega⟩
  | vBlank =>
    obtain ⟨-, -, -, -, size, index, -⟩ := (Ppu.onSchedule_vBlank mode).1 h
    exact ⟨by omega, by omega⟩

/-- Settles O16: neither the instruction nor the tick counts a violation, and the bounds are those of the schedule, which the
step keeps. -/
theorem fifoNeverViolated : Obligations.FifoNeverViolated := by
  intro s t inv answers
  have bounds := (stepKeepsInvariant s t inv answers).schedule.bounds
  obtain ⟨-, u, executed, rfl⟩ := step_next answers
  obtain ⟨u', executed', ppu⟩ := exec_ppu (fetch s) s
  obtain rfl : u = u' := Host.Outcome.next.inj (executed.symm.trans executed')
  exact ⟨by rw [driveTicks_violations, ppu], bounds⟩

/-! ### `ObjectSearch` and `PixelTransfer` (R301, R302) -/

theorem mapRowAddr_eq (ly : Nat) : mapRowAddr ly = BitVec.ofNat 16 (0x9800 + ly / 8 * 32) :=
  (BitVec.ofNat_add ..).symm

/-- Settles O52: the two branches of the tick. -/
theorem objectSearchTick : Obligations.ObjectSearchTick := by
  refine fun s mode => ⟨ppuTick_search mode, fun last => ?_⟩
  rw [ppuTick_fetcherStart mode last, mapRowAddr_eq]

/-- Settles O53: the fetcher touches neither the column nor the sink, so what is shown continues those of the state before. -/
theorem pixelTransferTick : Obligations.PixelTransferTick := by
  intro s mode u
  have tick : ppuTick s = { s with ppu := u.drain } := ppuTick_pixelTransfer mode
  have x : u.x = s.ppu.x := Ppu.fetcherTick_x ..
  have sink : u.sink = s.ppu.sink := Ppu.fetcherTick_sink ..
  refine ⟨fun few => by rw [tick, Ppu.drain_hold few], fun p rest fifo many => ?_⟩
  have above : 8 ≤ rest.length := by rw [fifo, List.length_cons] at many; omega
  rw [tick, Ppu.drain_pop fifo above, ← x, ← sink]
  refine ⟨fun within => ?_, fun last => ?_⟩
  · have within' : u.x + 1 ≠ 160 := by omega
    rw [Ppu.showPixel_within (u := { u with fifo := rest }) p within']
  · have last' : u.x + 1 = 160 := by omega
    rw [Ppu.showPixel_last (u := { u with fifo := rest }) p last', List.append_assoc]
    simp only [last', List.cons_append, List.nil_append]

/-! ### `HBlank` and `VBlank` (R303 to R305) -/

/-- The write of the current-line register changes that byte of memory and nothing else. -/
theorem State.writeLy_spec {s t : State} {u : Ppu} {n : Nat} (h : t = State.writeLy { s with ppu := u } n) :
    (∀ x, t.readByte x = if x = 0xFF44#16 then byte n else s.readByte x) ∧ { t with mem := s.mem } = { s with ppu := u } := by
  subst h
  exact ⟨fun x => State.readByte_writeByte .., rfl⟩

/-- Settles O56: below tick 456 both states count; on it each has two ends of line, by the line index, and each writes the new
index to the current-line register. -/
theorem blankTicks : Obligations.BlankTicks := by
  rintro s (mode | mode)
  · refine ⟨ppuTick_hBlank_wait mode, fun lineEnd => ?_⟩
    by_cases last : s.ppu.ly + 1 = 144
    · simpa [mode, last] using State.writeLy_spec (ppuTick_hBlank_lastLine mode lineEnd last)
    · simpa [mode, last] using State.writeLy_spec (ppuTick_hBlank_lineEnd mode lineEnd last)
  · refine ⟨ppuTick_vBlank_wait mode, fun lineEnd => ?_⟩
    by_cases last : s.ppu.ly = 153
    · simpa [mode, last] using State.writeLy_spec (ppuTick_vBlank_frameEnd mode lineEnd last)
    · simpa [mode, last] using State.writeLy_spec (ppuTick_vBlank_lineEnd mode lineEnd last)

end Sys2Proof.Machine
end

section
/-! The decoder and the encoder: the two round trips, the byte tables against the fields, and words written out bit by bit
(spec R90 to R105, R264). -/

namespace Sys2Proof.Machine

open Sys2Proof.Claims

/-! ### Encode, then decode -/

/-- Settles O1: an operand word is cut into two bytes that are joined again; every other operand is a byte, and the decoder's
table is read at the bytes the encoder writes. -/
theorem decodeOfEncode : Obligations.DecodeOfEncode := by
  intro i wf rest
  cases i with
  | prefixCB => exact absurd wf Bool.false_ne_true
  | ld_bc_d16 v | ld_de_d16 v | ld_hl_d16 v | ld_sp_d16 v | ld_at16_sp v | ld_at16_a v | ld_a_at16 v
  | jp_a16 v | jp_nz_a16 v | jp_z_a16 v | jp_nc_a16 v | jp_c_a16 v
  | call_a16 v | call_nz_a16 v | call_z_a16 v | call_nc_a16 v | call_c_a16 v =>
    conv_rhs => rw [← word16_hi_lo v]
    rfl
  | _ => rfl

/-- Settles O4: each word is the encoding of its instruction, which decodes to it. -/
theorem sampleWordsDecode : Obligations.SampleWordsDecode :=
  ⟨decodeOfEncode .ld_b_c rfl [], decodeOfEncode (.ld_sp_d16 0xFFFE#16) rfl [], decodeOfEncode (.jr_nz_e8 0xFB#8) rfl [],
    decodeOfEncode .sub_atHL rfl [], decodeOfEncode .push_af rfl [], decodeOfEncode .rst_28 rfl [],
    decodeOfEncode .bit_7_h rfl [], decodeOfEncode .set_1_e rfl [], decodeOfEncode .unhandled_D3 rfl []⟩

/-! ### The main table, row by row -/

/-- A first byte is its row and its column in the main table (R99). -/
theorem byte_row_column (op : Byte) : byte (16 * (op.toNat / 16) + op.toNat % 16) = op := by
  rw [Nat.div_add_mod, byte, BitVec.ofNat_toNat, BitVec.setWidth_eq]

/-- What is true of every row of the main table, column by column, is true of every first byte. -/
theorem decodeOp_of_rows {α : Type} (read : Instr → α) (value : Byte → α) (b1 b2 : Byte)
    (rows : ∀ hi < 16, (mainRow hi b1 b2).map read = (List.range 16).map fun lo => value (byte (16 * hi + lo))) (op : Byte) :
    read (decodeOp op b1 b2) = value op := by
  have column : op.toNat % 16 < 16 := Nat.mod_lt _ (by decide)
  have entry := congrArg (·[op.toNat % 16]?) (rows (op.toNat / 16) (Nat.div_lt_of_lt_mul op.isLt))
  rw [decodeOp, List.getD_eq_getElem?_getD]
  simp only [List.getElem?_map, List.getElem?_range column, Option.map_some, byte_row_column] at entry
  obtain ⟨i, found, eq⟩ := Option.map_eq_some_iff.1 entry
  rw [found, Option.getD_some, eq]

/-- Settles O3: row by row the two decoders have the same entries; where the entry is the extended table, that was read by its
fields before. -/
theorem byteTableAgreesWithFields : Obligations.ByteTableAgreesWithFields := by
  intro op b1 b2
  refine decodeOp_of_rows id (fun op => decodeByFields op b1 b2) b1 b2 (fun hi row => ?_) op
  have extended := decodeExtended_eq_byFields b1
  interval_cases hi <;> simp only [mainRow, mainRowC, extended] <;> rfl

/-! ### Decode, then encode -/

/-- An extended instruction is written as 0xCB and its second byte (R105). -/
theorem encode_decodeExtended : ∀ op2 : Byte, encode (decodeExtended op2) = [0xCB#8, op2] := by decide

theorem wf_decodeExtended : ∀ op2 : Byte, (decodeExtended op2).wf = true := by decide

/-- The decoder answers whole instructions only (R264). -/
theorem wf_decodeOp (op b1 b2 : Byte) : (decodeOp op b1 b2).wf = true := by
  refine decodeOp_of_rows Instr.wf (fun _ => true) b1 b2 (fun hi row => ?_) op
  have extended := wf_decodeExtended b1
  interval_cases hi <;> simp only [mainRow, mainRowC, List.map_cons, extended] <;> rfl

/-- The instruction read from three bytes is written as the first of them, as many as its first byte says (R91, R104). -/
theorem encode_decodeOp (op b1 b2 : Byte) : encode (decodeOp op b1 b2) = [op, b1, b2].take (lengthOf op) := by
  obtain ⟨v, rfl, rfl⟩ : ∃ v, loByte v = b1 ∧ hiByte v = b2 := ⟨word16 b2 b1, loByte_word16 .., hiByte_word16 ..⟩
  refine decodeOp_of_rows encode (fun op => [op, loByte v, hiByte v].take (lengthOf op)) _ _ (fun hi row => ?_) op
  have extended := encode_decodeExtended (loByte v)
  interval_cases hi <;>
    simp only [mainRow, mainRow0, mainRow1, mainRow2, mainRow3, mainRowC, mainRowD, mainRowE, mainRowF, List.map_cons,
      word16_hi_lo, extended] <;> rfl

/-- What the decoder answers when it answers at all: the instruction at the first byte, and the bytes beyond its length. -/
theorem decode_ok {bytes rest : List Byte} {i : Instr} (decoded : decode bytes = .ok (i, rest)) :
    ∃ op b1 b2, i = decodeOp op b1 b2 ∧ bytes = [op, b1, b2].take (lengthOf op) ++ rest := by
  cases bytes with
  | nil => cases decoded
  | cons op tail =>
    rcases lengthOf_cases op with len | len | len
    · rw [decode_one tail len] at decoded
      cases decoded
      exact ⟨op, 0#8, 0#8, rfl, by rw [len]; rfl⟩
    · match tail with
      | [] => simp [decode, len] at decoded
      | b1 :: tail =>
        rw [decode_two b1 tail len] at decoded
        cases decoded
        exact ⟨op, b1, 0#8, rfl, by rw [len]; rfl⟩
    · match tail with
      | [] | [_] => simp [decode, len] at decoded
      | b1 :: b2 :: tail =>
        rw [decode_three b1 b2 tail len] at decoded
        cases decoded
        exact ⟨op, b1, b2, rfl, by rw [len]; rfl⟩

/-- Settles O2: the bytes that the decoder takes are the encoding of what it reads there. -/
theorem encodeOfDecode : Obligations.EncodeOfDecode := by
  intro bytes i rest decoded
  obtain ⟨op, b1, b2, rfl, rfl⟩ := decode_ok decoded
  exact ⟨wf_decodeOp op b1 b2, by rw [encode_decodeOp]⟩

end Sys2Proof.Machine
end

section
/-! The run status, the fault that ends a run, and the first step after reset (spec R34, R360 to R363, R390 to R393). -/

namespace Sys2Proof.Machine

open Sys2Proof.Claims

/-! ### The run status (R360 to R363) -/

theorem Contained.status {s : State} {r : Result} (h : Contained s r) : ∃ t, r = .next t ∧ t.status = s.status := by
  obtain ⟨t, answers, -, status, -⟩ := h
  exact ⟨t, answers, status⟩

/-- Every instruction answers a next state: an unhandled byte with the fault recorded, any other with the run status as it was. -/
theorem exec_status (i : Instr) (s : State) :
    ∃ t, exec i s = .next t ∧ ((encode i).headD 0 ∉ unhandledBytes ∧ t.status = s.status ∨
      ∃ op ∈ unhandledBytes, encode i = [op] ∧ t.status = .faulted .main op s.pc) := by
  cases execKind i s with
  | sequential handled next =>
    obtain ⟨t, answers, status⟩ := next.contained.status
    exact ⟨t, answers, .inl ⟨handled, status⟩⟩
  | transfer head next =>
    obtain ⟨t, answers, status⟩ := next.status
    exact ⟨t, answers, .inl ⟨fun mem => unhandled_not_transfer _ mem head, status⟩⟩
  | unhandled op mem enc raises => exact ⟨_, raises, .inr ⟨op, mem, enc, rfl⟩⟩

/-- Settles O5: the statement reads `exec_status` off the encoding. -/
theorem everyInstructionCompletes : Obligations.EveryInstructionCompletes := by
  intro i s
  obtain ⟨t, answers, ⟨handled, status⟩ | ⟨op, mem, enc, status⟩⟩ := exec_status i s
  · refine ⟨t, answers, ?_⟩
    split
    · next op enc =>
      rw [enc, List.headD_cons] at handled
      rw [status, if_neg handled]
    · exact status
  · refine ⟨t, answers, ?_⟩
    rw [status, enc]
    exact (if_pos mem).symm

/-- A run stops at the first step that faults. -/
theorem run_succ_of_fault {M : Host.Core} {s : M.State} {r : M.Fault} (faults : M.step s = .fault r) (k : Nat) :
    M.run (k + 1) s = .fault r := by
  rw [Host.Core.run, faults]

/-- Settles O8: the first step of the run already answers `runEnded`. -/
theorem faultEndsTheRun : Obligations.FaultEndsTheRun := fun _ _ _ _ status k =>
  run_succ_of_fault (M := core) (step_faulted status) k

/-! ### Reset and the first step (R390 to R393) -/

theorem Ppu.onSchedule_reset : Ppu.reset.onSchedule := (Ppu.onSchedule_objectSearch rfl).2 (by decide)

/-- Settles O11: a memory given by a function is canonical, and registers and PPU are the same whatever the memory holds. -/
theorem resetMeetsInvariant : Obligations.ResetMeetsInvariant := fun image memInit =>
  { memory := by rw [State.resetWith_mem]; exact Memory.wf_ofBytes _
    flags := BitVec.zero_and
    schedule := Ppu.onSchedule_reset }

/-- A boot image that begins 31 FE FF is `LD SP,0xFFFE` at address 0 (R391). -/
theorem fetch_resetWith {image : List Byte} (memInit : Nat → Byte) (boot : image.take 3 = [0x31#8, 0xFE#8, 0xFF#8]) :
    fetch (State.resetWith image memInit) = .ld_sp_d16 0xFFFE#16 := by
  have byteAt (k : Word) (inside : k.toNat < 3) :
      (State.resetWith image memInit).readByte k = [0x31#8, 0xFE#8, 0xFF#8][k.toNat] := by
    rw [State.readByte_resetWith, ← List.getElem?_take_of_lt inside, boot, List.getElem?_eq_getElem inside, Option.getD_some]
  have pc : (State.resetWith image memInit).pc = 0 := rfl
  rw [fetch, pc, byteAt 0 (by decide), byteAt (0 + 1) (by decide), byteAt (0 + 2) (by decide)]
  rfl

/-- Settles O12: the core runs what it fetches, and the tick after it is the first of the object search. -/
theorem firstStepLoadsStackPointer : Obligations.FirstStepLoadsStackPointer := by
  intro image memInit boot s
  have executes : exec (fetch s) s = .next { s with sp := 0xFFFE#16, pc := 0x0003#16 } := by
    rw [fetch_resetWith memInit boot]
    rfl
  have start : Ppu.reset.ticks + 1 ≠ 40 := by decide
  refine ⟨(cpuStep_running rfl).trans executes, ?_⟩
  rw [step_running rfl executes, driveTicks_running rfl, ppuTick_search rfl start]
  rfl

end Sys2Proof.Machine
end

section
/-! The FIFO when it overflows, and one tile through the fetcher (spec R331 to R339). -/

namespace Sys2Proof.Machine

open Sys2Proof.Claims

/-! ### The FIFO (R337 to R339) -/

/-- Pushes beyond the capacity are lost and counted (R338). -/
theorem Ppu.fifoPushAll_eq {u : Ppu} (ps : List Pixel) (bounded : u.fifo.length ≤ 16) :
    u.fifoPushAll ps = { u with
      fifo := (u.fifo ++ ps).take 16, violations := u.violations + (u.fifo.length + ps.length - 16) } := by
  induction ps generalizing u with
  | nil =>
    have none_lost : u.fifo.length + ([] : List Pixel).length - 16 = 0 := Nat.sub_eq_zero_of_le bounded
    rw [Ppu.fifoPushAll, List.append_nil, List.take_of_length_le bounded, none_lost, Nat.add_zero]
  | cons p ps ih =>
    rw [Ppu.fifoPushAll]
    by_cases room : u.fifo.length < 16
    · have lost : u.fifo.length + 1 + ps.length - 16 = u.fifo.length + (ps.length + 1) - 16 := by omega
      rw [Ppu.fifoPush_room p room, ih (by simpa using room)]
      simp [lost]
    · have full : u.fifo.length = 16 := Nat.le_antisymm bounded (Nat.not_lt.1 room)
      rw [Ppu.fifoPush_full p room, ih (u := { u with violations := u.violations + 1 }) bounded,
        List.take_append_of_le_length full.ge, List.take_append_of_le_length full.ge]
      simp only [full, List.length_cons, Nat.add_sub_cancel_left, Nat.add_assoc, Nat.add_comm 1]

/-- Settles O55: pushes by `fifoPushAll_eq`, the other operations by their definitions. -/
theorem fifoOperations : Obligations.FifoOperations := by
  refine fun u ps bounded => ⟨Ppu.fifoPushAll_eq ps bounded, rfl, fun p rest fifo => ?_, fun empty => ?_, rfl⟩
  · rw [Ppu.fifoPop, fifo]
  · rw [Ppu.fifoPop, empty]

/-! ### One tile (R331 to R336) -/

/-- Two fetcher ticks are one fetcher step (R331). -/
theorem Ppu.fetcherTick_twice {u : Ppu} (m : Memory) (even : u.fticks = 0) :
    (u.fetcherTick m).fetcherTick m = u.fetcherStep m := by
  have first : u.fetcherTick m = { u with fticks := 1 } := by rw [Ppu.fetcherTick_count m (by omega), even]
  rw [first, Ppu.fetcherTick_step m (by simp), ← even]

/-- The two bit-planes joined (R334). -/
theorem pixelOf_or (lo hi : Bool) : pixelOf lo false ||| pixelOf false hi = pixelOf lo hi := by
  cases lo <;> cases hi <;> rfl

theorem tileAddr_eq (id : Byte) (line : Nat) : tileAddr id line = BitVec.ofNat 16 (0x8000 + 16 * id.toNat + 2 * line) := by
  rw [Nat.add_assoc, BitVec.ofNat_add]
  rfl

theorem tileAddr_add_one_eq (id : Byte) (line : Nat) :
    tileAddr id line + 1 = BitVec.ofNat 16 (0x8000 + 16 * id.toNat + 2 * line + 1) := by
  rw [tileAddr_eq]
  exact (BitVec.ofNat_add ..).symm

/-- The eight pixels of a tile line, leftmost first (R336). -/
def tileRow (s : State) (id : Byte) (line : Nat) : PixelRow where
  p0 := tilePixel s id line 0
  p1 := tilePixel s id line 1
  p2 := tilePixel s id line 2
  p3 := tilePixel s id line 3
  p4 := tilePixel s id line 4
  p5 := tilePixel s id line 5
  p6 := tilePixel s id line 6
  p7 := tilePixel s id line 7

@[simp] theorem toList_tileRow (s : State) (id : Byte) (line : Nat) :
    (tileRow s id line).toList = (List.range 8).map (tilePixel s id line) := rfl

/-- What the fetcher decodes from the two bit-planes is the tile line (R333, R334). -/
theorem orHigh_ofLow_eq_tileRow (s : State) (id : Byte) (line : Nat) :
    (PixelRow.ofLow (s.readByte (tileAddr id line))).orHigh (s.readByte (tileAddr id line + 1)) = tileRow s id line := by
  rw [tileAddr_add_one_eq, tileAddr_eq]
  simp only [PixelRow.ofLow, PixelRow.orHigh, pixelOf_or]
  rfl

/-- Six ticks from a fresh `ReadTileIndex` fetch the tile number and the two bit-planes. -/
theorem Ppu.fetcherTick_six {u : Ppu} {s : State} {id : Byte} (fresh : u.fstate = .readTileIndex) (even : u.fticks = 0)
    (number : s.readByte (u.mapAddr + BitVec.ofNat 16 u.tileIndex) = id) :
    (((((u.fetcherTick s.mem).fetcherTick s.mem).fetcherTick s.mem).fetcherTick s.mem).fetcherTick s.mem).fetcherTick s.mem =
      { u with fstate := .pushToFifo, tileId := id, pix := tileRow s id u.tileLine } := by
  subst number
  simp only [Ppu.fetcherTick_twice, even, Ppu.fetcherStep_readTileIndex, fresh, Ppu.fetcherStep_readLowPlane,
    Ppu.fetcherStep_readHighPlane, ← orHigh_ofLow_eq_tileRow]
  rfl

/-- Settles O54: six ticks fetch, the seventh counts, and the eighth pushes or waits. -/
theorem eightTicksFetchOneTile : Obligations.EightTicksFetchOneTile := by
  intro s u fresh even _ _ tick id px seven
  have fetched : seven = { u with fticks := 1, fstate := .pushToFifo, tileId := id, pix := tileRow s id u.tileLine } := by
    refine (congrArg tick (Ppu.fetcherTick_six fresh even rfl)).trans ((Ppu.fetcherTick_count s.mem (by simp [even])).trans ?_)
    rw [even]
  have second (v : Ppu) (odd : v.fticks = 1) : tick v = Ppu.fetcherStep { v with fticks := 0 } s.mem :=
    Ppu.fetcherTick_step s.mem (by omega)
  clear_value seven
  subst fetched
  exact ⟨rfl, fun room => (second _ rfl).trans (Ppu.fetcherStep_push s.mem rfl room),
    fun full => (second _ rfl).trans (Ppu.fetcherStep_wait s.mem rfl (Nat.not_le.2 full))⟩

end Sys2Proof.Machine
end

section
/-! One scanline: what fetcher, FIFO and sink hold while it is shown, and what its 456 ticks do (spec R301 to R309, R330 to
R336). -/

namespace Sys2Proof.Machine

open Sys2Proof.Claims

/-! ### Many ticks -/

theorem ppuTicks_frame (n : Nat) (s : State) : { ppuTicks n s with mem := s.mem, ppu := s.ppu } = s := by
  induction n generalizing s with
  | zero => rfl
  | succ n ih =>
    have rest := congrArg (fun t : State => { t with mem := s.mem, ppu := s.ppu }) (ih (ppuTick s))
    exact rest.trans (ppuTick_frame s)

@[simp] theorem ppuTicks_violations (n : Nat) (s : State) : (ppuTicks n s).ppu.violations = s.ppu.violations := by
  induction n generalizing s with
  | zero => rfl
  | succ n ih => rw [ppuTicks_succ, ih, ppuTick_violations]

/-- The last of `n + 1` ticks. -/
theorem ppuTicks_succ_last (n : Nat) (s : State) : ppuTicks (n + 1) s = ppuTick (ppuTicks n s) := ppuTicks_add n 1 s

/-- `s` at line tick `k`. -/
def State.atTick (s : State) (k : Nat) : State := { s with ppu := { s.ppu with ticks := k } }

/-- From the start of a line, ticks that only count. -/
theorem ppuTicks_count {s : State} (start : s.ppu.ticks = 0) {n : Nat}
    (counts : ∀ k < n, ppuTick (s.atTick k) = s.atTick (k + 1)) : ppuTicks n s = s.atTick n := by
  induction n with
  | zero =>
    rw [ppuTicks_zero, State.atTick, ← start]
  | succ n ih =>
    rw [ppuTicks_succ_last, ih fun k below => counts k (Nat.lt_succ_of_lt below), counts n (Nat.lt_succ_self n)]

/-! ### The pixels of a scanline -/

/-- The tile number in column `i` of the tile map, in the row that scanline `y` shows. -/
def columnTile (s : State) (y i : Nat) : Byte := s.readByte (mapRowAddr y + BitVec.ofNat 16 i)

theorem screenPixel_column (s : State) (y i : Nat) {j : Nat} (inside : j < 8) :
    screenPixel s y (8 * i + j) = tilePixel s (columnTile s y i) (y % 8) j := by
  have column : (8 * i + j) / 8 = i := by omega
  have offset : (8 * i + j) % 8 = j := by omega
  have addr : mapRowAddr y + BitVec.ofNat 16 i = BitVec.ofNat 16 (0x9800 + 32 * (y / 8) + i) := by
    rw [mapRowAddr_eq, ← BitVec.ofNat_add, Nat.mul_comm]
  rw [screenPixel, column, offset, columnTile, addr]

/-- One more tile column is eight more pixels. -/
theorem map_screenPixel_column (s : State) (y i : Nat) :
    (List.range (8 * (i + 1))).map (screenPixel s y) =
      (List.range (8 * i)).map (screenPixel s y) ++ (tileRow s (columnTile s y i) (y % 8)).toList := by
  rw [Nat.mul_succ, List.range_add, List.map_append, List.map_map, toList_tileRow]
  refine congrArg _ (List.map_congr_left fun j mem => ?_)
  exact screenPixel_column s y i (List.mem_range.1 mem)

/-- A list that continues the first `x` values of `f` up to the `n`th begins with the value at `x`. -/
theorem map_range_append_cons {α : Type} {f : Nat → α} {x n : Nat} {p : α} {rest : List α}
    (h : (List.range x).map f ++ p :: rest = (List.range n).map f) :
    p = f x ∧ (List.range (x + 1)).map f ++ rest = (List.range n).map f := by
  have inside : x < n := by
    have := congrArg List.length h
    simp only [List.length_append, List.length_cons, List.length_map, List.length_range] at this
    omega
  have first : p = f x := by simpa [inside] using congrArg (·[x]?) h
  refine ⟨first, ?_⟩
  rw [List.range_succ, List.map_append, List.append_assoc, ← h, first]
  rfl

/-! ### `PixelTransfer` -/

/-- What fetcher, FIFO and sink hold while the line that began in `s` is shown: the sink has the first `x` pixels, the FIFO the
next ones up to tile column `tileIndex`, and the fetcher what it has read of that column so far. -/
structure Ppu.Shows (u : Ppu) (s : State) : Prop where
  mapAddr : u.mapAddr = mapRowAddr s.ppu.ly
  tileLine : u.tileLine = s.ppu.ly % 8
  tileId : u.fstate ≠ .readTileIndex → u.tileId = columnTile s s.ppu.ly u.tileIndex
  lowPlane : u.fstate = .readHighPlane → u.pix = PixelRow.ofLow (s.readByte (tileAddr u.tileId u.tileLine))
  bothPlanes : u.fstate = .pushToFifo → u.pix = tileRow s u.tileId u.tileLine
  fifo : (List.range u.x).map (screenPixel s s.ppu.ly) ++ u.fifo = (List.range (8 * u.tileIndex)).map (screenPixel s s.ppu.ly)
  sink : u.sink = s.ppu.sink ++ (List.range u.x).map fun col => .pixel (screenPixel s s.ppu.ly col)

theorem Ppu.Shows.fetcherStep {u : Ppu} {s : State} (h : u.Shows s) : (u.fetcherStep s.mem).Shows s := by
  cases phase : u.fstate with
  | readTileIndex =>
    rw [Ppu.fetcherStep_readTileIndex s.mem phase]
    exact { h with
      tileId := fun _ => congrArg (fun a => s.readByte (a + BitVec.ofNat 16 u.tileIndex)) h.mapAddr
      lowPlane := nofun
      bothPlanes := nofun }
  | readLowPlane =>
    rw [Ppu.fetcherStep_readLowPlane s.mem phase]
    exact { h with
      tileId := fun _ => h.tileId (by rw [phase]; decide)
      lowPlane := fun _ => rfl
      bothPlanes := nofun }
  | readHighPlane =>
    rw [Ppu.fetcherStep_readHighPlane s.mem phase, h.lowPlane phase]
    exact { h with
      tileId := fun _ => h.tileId (by rw [phase]; decide)
      lowPlane := nofun
      bothPlanes := fun _ => orHigh_ofLow_eq_tileRow s u.tileId u.tileLine }
  | pushToFifo =>
    by_cases room : u.fifo.length ≤ 8
    · rw [Ppu.fetcherStep_push s.mem phase room]
      exact { h with
        tileId := fun next => absurd rfl next
        lowPlane := nofun
        bothPlanes := nofun
        fifo := by
          rw [map_screenPixel_column, ← h.fifo, h.bothPlanes phase, h.tileId (by rw [phase]; decide), h.tileLine,
            List.append_assoc] }
    · rwa [Ppu.fetcherStep_wait s.mem phase room]

theorem Ppu.Shows.fetcherTick {u : Ppu} {s : State} (h : u.Shows s) : (u.fetcherTick s.mem).Shows s := by
  by_cases first : u.fticks + 1 < 2
  · rw [Ppu.fetcherTick_count s.mem first]
    exact { h with }
  · rw [Ppu.fetcherTick_step s.mem first]
    exact Ppu.Shows.fetcherStep { h with }

/-- The FIFO holds its pixels back, or its oldest goes to the sink, and the 160th ends the line (R302). -/
theorem Ppu.drain_cases (u : Ppu) :
    u.drain = u ∨ ∃ p rest, u.fifo = p :: rest ∧
      (u.x + 1 ≠ 160 ∧ u.drain = { u with fifo := rest, x := u.x + 1, sink := u.sink ++ [.pixel p] } ∨
        u.x + 1 = 160 ∧ u.drain = { u with
          fifo := rest, x := u.x + 1, sink := u.sink ++ [.pixel p] ++ [.endOfLine], mode := .hBlank }) := by
  by_cases few : u.fifo.length ≤ 8
  · exact .inl (Ppu.drain_hold few)
  · obtain ⟨p, rest, fifo⟩ : ∃ p rest, u.fifo = p :: rest := List.exists_cons_of_length_pos (by omega)
    have above : 8 ≤ rest.length := by rw [fifo, List.length_cons] at few; omega
    rw [Ppu.drain_pop fifo above]
    refine .inr ⟨p, rest, fifo, ?_⟩
    by_cases last : u.x + 1 = 160
    · exact .inr ⟨last, Ppu.showPixel_last p last⟩
    · exact .inl ⟨last, Ppu.showPixel_within p last⟩

/-- A line is being shown, or all of it has gone to the sink. -/
def Ppu.Progress (u : Ppu) (s : State) : Prop :=
  u.mode = .pixelTransfer ∧ u.Shows s ∨ u.mode = .hBlank ∧ u.sink = s.ppu.sink ++ lineCalls s s.ppu.ly

theorem Ppu.Shows.drain {u : Ppu} {s : State} (h : u.Shows s) (mode : u.mode = .pixelTransfer) : u.drain.Progress s := by
  rcases Ppu.drain_cases u with hold | ⟨p, rest, fifo, shown⟩
  · rw [hold]
    exact .inl ⟨mode, h⟩
  · have waiting := h.fifo
    rw [fifo] at waiting
    obtain ⟨oldest, waiting⟩ := map_range_append_cons waiting
    have sink : u.sink ++ [.pixel p] =
        s.ppu.sink ++ (List.range (u.x + 1)).map fun col => .pixel (screenPixel s s.ppu.ly col) := by
      rw [h.sink, oldest, List.range_succ, List.map_append, List.append_assoc]
      rfl
    rcases shown with ⟨-, within⟩ | ⟨last, lineEnd⟩
    · rw [within]
      exact .inl ⟨mode, { h with fifo := waiting, sink }⟩
    · rw [lineEnd, sink, last, List.append_assoc]
      exact .inr ⟨rfl, rfl⟩

/-! ### The ticks of a line -/

/-- Showing a pixel leaves the fetcher and the counters of tick and line alone. -/
theorem Ppu.drain_frame (u : Ppu) : { u.drain with mode := u.mode, x := u.x, fifo := u.fifo, sink := u.sink } = u := by
  rcases Ppu.drain_cases u with hold | ⟨p, rest, -, ⟨-, within⟩ | ⟨-, lineEnd⟩⟩
  · rw [hold]
  · rw [within]
  · rw [lineEnd]

@[simp] theorem Ppu.drain_ticks (u : Ppu) : u.drain.ticks = u.ticks := by
  have frame := congrArg Ppu.ticks (Ppu.drain_frame u)
  exact frame

@[simp] theorem Ppu.drain_ly (u : Ppu) : u.drain.ly = u.ly := by
  have frame := congrArg Ppu.ly (Ppu.drain_frame u)
  exact frame

@[simp] theorem Ppu.fetcherTick_ticks (u : Ppu) (m : Memory) : (u.fetcherTick m).ticks = u.ticks := by
  have frame := congrArg Ppu.ticks (Ppu.fetcherTick_frame u m)
  exact frame

@[simp] theorem Ppu.fetcherTick_ly (u : Ppu) (m : Memory) : (u.fetcherTick m).ly = u.ly := by
  have frame := congrArg Ppu.ly (Ppu.fetcherTick_frame u m)
  exact frame

@[simp] theorem Ppu.fetcherTick_mode (u : Ppu) (m : Memory) : (u.fetcherTick m).mode = u.mode := by
  have frame := congrArg Ppu.mode (Ppu.fetcherTick_frame u m)
  exact frame

/-- The PPU at line tick `t`, 40 to 455, of the line that began in `s`. -/
structure Ppu.OnLine (u : Ppu) (s : State) (t : Nat) : Prop where
  schedule : u.onSchedule
  ticks : u.ticks = t
  ly : u.ly = s.ppu.ly
  progress : u.Progress s

/-- A tick inside the line changes nothing but the PPU. -/
theorem Ppu.OnLine.tick {u : Ppu} {s : State} {t : Nat} (h : u.OnLine s t) (inner : t + 1 ≠ 456) :
    ∃ v, ppuTick { s with ppu := u } = { s with ppu := v } ∧ v.OnLine s (t + 1) := by
  obtain ⟨schedule, rfl, ly, progress⟩ := h
  have schedule := ppuTick_onSchedule (s := { s with ppu := u }) schedule
  rcases progress with ⟨mode, shows⟩ | ⟨mode, sink⟩
  · have tick := ppuTick_pixelTransfer (s := { s with ppu := u }) mode
    rw [tick] at schedule ⊢
    have shows' : (Ppu.fetcherTick { u with ticks := u.ticks + 1 } s.mem).Shows s := Ppu.Shows.fetcherTick { shows with }
    exact ⟨_, rfl, schedule, by simp [Ppu.pixelTransferTick], by simpa [Ppu.pixelTransferTick] using ly,
      shows'.drain (by simpa using mode)⟩
  · have tick := ppuTick_hBlank_wait (s := { s with ppu := u }) mode inner
    rw [tick] at schedule ⊢
    exact ⟨_, rfl, schedule, rfl, ly, .inr ⟨mode, sink⟩⟩

/-- The line on its 40th tick: the search is over, and nothing is fetched yet (R301). -/
theorem ppuTicks_forty {s : State} (mode : s.ppu.mode = .objectSearch) (start : s.ppu.ticks = 0) (visible : s.ppu.ly < 144) :
    ∃ u, ppuTicks 40 s = { s with ppu := u } ∧ u.OnLine s 40 := by
  have search : ppuTicks 39 s = s.atTick 39 :=
    ppuTicks_count start fun k below => ppuTick_search (s := s.atTick k) mode (by simp only [State.atTick]; omega)
  rw [ppuTicks_succ_last, search, ppuTick_fetcherStart (s := s.atTick 39) mode rfl]
  refine ⟨_, rfl, ?_, rfl, rfl, .inl ⟨rfl, ?_⟩⟩
  · have phase : fetchPhase 40 = .readTileIndex := rfl
    exact (Ppu.onSchedule_pixelTransfer rfl).2
      ⟨Nat.le_refl 40, by simp, visible, rfl, rfl, by simp, by simp, phase.symm, rfl, rfl⟩
  · exact {
      mapAddr := rfl
      tileLine := rfl
      tileId := fun next => absurd rfl next
      lowPlane := nofun
      bothPlanes := nofun
      fifo := rfl
      sink := (List.append_nil _).symm }

theorem ppuTicks_onLine {s : State} (mode : s.ppu.mode = .objectSearch) (start : s.ppu.ticks = 0) (visible : s.ppu.ly < 144)
    {n : Nat} (inner : 40 + n < 456) : ∃ u, ppuTicks (40 + n) s = { s with ppu := u } ∧ u.OnLine s (40 + n) := by
  induction n with
  | zero => exact ppuTicks_forty mode start visible
  | succ n ih =>
    obtain ⟨u, ticks, onLine⟩ := ih (by omega)
    rw [← Nat.add_assoc, ppuTicks_succ_last, ticks]
    exact onLine.tick (by omega)

/-- The last tick of a line begins with the whole line shown. -/
theorem Ppu.OnLine.lineOver {u : Ppu} {s : State} (h : u.OnLine s 455) :
    u.mode = .hBlank ∧ u.sink = s.ppu.sink ++ lineCalls s s.ppu.ly ∧ u.x = 160 := by
  rcases h.progress with ⟨mode, -⟩ | ⟨mode, sink⟩
  · obtain ⟨-, upper, -⟩ := (Ppu.onSchedule_pixelTransfer mode).1 h.schedule
    rw [h.ticks] at upper
    exact absurd upper (by decide)
  · obtain ⟨-, -, -, x, -⟩ := (Ppu.onSchedule_hBlank mode).1 h.schedule
    exact ⟨mode, sink, x⟩

/-- Settles O57: at the last tick of the line all of it is shown, and that tick is the end of an `HBlank` line. -/
theorem lineRendersItsPixels : Obligations.LineRendersItsPixels := by
  intro s mode start visible
  obtain ⟨u, ticks, onLine⟩ := ppuTicks_onLine mode start visible (n := 415) (by decide)
  obtain ⟨blank, sink, x⟩ := onLine.lineOver
  obtain ⟨memory, rest⟩ := (blankTicks { s with ppu := u } (.inl blank)).2 (congrArg (· + 1) onLine.ticks)
  simp only [blank, onLine.ly, reduceCtorEq, false_and, true_and, if_true, if_false, Nat.reduceEqDiff] at memory rest
  have last : ppuTicks 456 s = ppuTick { s with ppu := u } := (ppuTicks_succ_last 455 s).trans (congrArg ppuTick ticks)
  rw [← last] at memory rest
  have violations := ppuTicks_violations 456 s
  have frame := ppuTicks_frame 456 s
  generalize ppuTicks 456 s = t at memory rest violations frame ⊢
  have ppu := congrArg State.ppu rest
  refine ⟨?_, congrArg Ppu.mode ppu, congrArg Ppu.ticks ppu, congrArg Ppu.ly ppu, (congrArg Ppu.x ppu).trans x,
    violations, memory, frame⟩
  exact (congrArg Ppu.sink ppu).trans (by rw [sink])

end Sys2Proof.Machine
end

section
/-! One frame: 144 lines that are shown and ten that are not (spec R303 to R305). -/

namespace Sys2Proof.Machine

open Sys2Proof.Claims

/-! ### Pixels do not depend on the current-line register -/

theorem ofNat_ne_lyAddr {n : Nat} (below : n < 0xFF44) : BitVec.ofNat 16 n ≠ 0xFF44#16 := by
  intro eq
  have := congrArg BitVec.toNat eq
  simp only [BitVec.toNat_ofNat] at this
  omega

theorem screenPixel_congr {s t : State} (same : ∀ a, a ≠ 0xFF44#16 → t.readByte a = s.readByte a) {y col : Nat}
    (visible : y < 144) (inside : col < 160) : screenPixel t y col = screenPixel s y col := by
  have number := same (BitVec.ofNat 16 (0x9800 + 32 * (y / 8) + col / 8)) (ofNat_ne_lyAddr (by omega))
  rw [screenPixel, screenPixel, number]
  generalize s.readByte (BitVec.ofNat 16 (0x9800 + 32 * (y / 8) + col / 8)) = id
  have bounded := id.isLt
  rw [tilePixel, tilePixel, same _ (ofNat_ne_lyAddr (by omega)), same _ (ofNat_ne_lyAddr (by omega))]

theorem lineCalls_congr {s t : State} (same : ∀ a, a ≠ 0xFF44#16 → t.readByte a = s.readByte a) {y : Nat}
    (visible : y < 144) : lineCalls t y = lineCalls s y := by
  refine congrArg (· ++ [SinkCall.endOfLine]) (List.map_congr_left fun col mem => ?_)
  rw [screenPixel_congr same visible (List.mem_range.1 mem)]

/-! ### Line by line -/

/-- `t` is at the first tick of line `y`; since `s` the sink got `calls`, and of memory nothing but the current-line register
changed. -/
structure State.AtLine (t s : State) (y : Nat) (mode : PpuMode) (calls : List SinkCall) : Prop where
  mode : t.ppu.mode = mode
  start : t.ppu.ticks = 0
  ly : t.ppu.ly = y
  sink : t.ppu.sink = s.ppu.sink ++ calls
  memory : ∀ a, a ≠ 0xFF44#16 → t.readByte a = s.readByte a

/-- What the sink has got of the frame when line `y` begins. -/
def frameCalls (s : State) (y : Nat) : List SinkCall :=
  (List.range y).flatMap (lineCalls s) ++ if y = 144 then [.endOfFrame] else []

/-- A visible line adds its own calls; after the last one the frame is over (R303). -/
theorem State.AtLine.visible {s t : State} {y : Nat} (h : t.AtLine s y .objectSearch (frameCalls s y)) (visible : y < 144) :
    (ppuTicks 456 t).AtLine s (y + 1) (if y + 1 = 144 then .vBlank else .objectSearch) (frameCalls s (y + 1)) := by
  obtain ⟨mode, start, rfl, sink, memory⟩ := h
  obtain ⟨sink', mode', start', ly', -, -, memory', -⟩ := lineRendersItsPixels t mode start visible
  have last : t.ppu.ly + 1 = 144 ↔ t.ppu.ly = 143 := Nat.succ_inj
  refine ⟨mode'.trans (by simp only [last]), start', ly', sink'.trans ?_, fun a other => ?_⟩
  · rw [sink, lineCalls_congr memory visible, frameCalls, frameCalls, if_neg visible.ne, List.range_succ]
    simp [last]
  · rw [memory', if_neg other, memory a other]

theorem ppuTicks_visibleLines {s : State} (mode : s.ppu.mode = .objectSearch) (start : s.ppu.ticks = 0) (first : s.ppu.ly = 0)
    {y : Nat} (bounded : y ≤ 144) :
    (ppuTicks (456 * y) s).AtLine s y (if y = 144 then .vBlank else .objectSearch) (frameCalls s y) := by
  induction y with
  | zero => exact ⟨mode, start, first, (List.append_nil _).symm, fun _ _ => rfl⟩
  | succ y ih =>
    have before := ih (by omega)
    rw [if_neg (by omega)] at before
    rw [Nat.mul_succ, ppuTicks_add]
    exact before.visible bounded

/-- The last tick of a line of `VBlank` comes after ticks that only count. -/
theorem ppuTicks_vBlank {s : State} (mode : s.ppu.mode = .vBlank) (start : s.ppu.ticks = 0) :
    ppuTicks 456 s = ppuTick (s.atTick 455) := by
  rw [ppuTicks_succ_last 455, ppuTicks_count start fun k below => ppuTick_vBlank_wait (s := s.atTick k) mode ?_]
  exact (Nat.succ_lt_succ below).ne

/-- A line of `VBlank` below 153 leads to the next one (R304). -/
theorem State.AtLine.blank {s t : State} {y : Nat} {calls : List SinkCall} (h : t.AtLine s y .vBlank calls) (inner : y ≠ 153) :
    (ppuTicks 456 t).AtLine s (y + 1) .vBlank calls := by
  obtain ⟨mode, start, rfl, sink, memory⟩ := h
  have tick := ppuTick_vBlank_lineEnd (s := t.atTick 455) mode rfl inner
  obtain ⟨memory', rest⟩ := State.writeLy_spec tick
  have ppu := congrArg State.ppu rest
  rw [ppuTicks_vBlank mode start]
  exact ⟨(congrArg Ppu.mode ppu).trans mode, congrArg Ppu.ticks ppu, congrArg Ppu.ly ppu, (congrArg Ppu.sink ppu).trans sink,
    fun a other => (memory' a).trans ((if_neg other).trans (memory a other))⟩

theorem State.AtLine.blankLines {s t : State} {calls : List SinkCall} (h : t.AtLine s 144 .vBlank calls) {n : Nat}
    (bounded : n ≤ 9) : (ppuTicks (456 * n) t).AtLine s (144 + n) .vBlank calls := by
  induction n with
  | zero => exact h
  | succ n ih =>
    rw [Nat.mul_succ, ppuTicks_add]
    exact (ih (by omega)).blank (by omega)

/-- Line 153 ends the frame: the next one begins, with 0 in the current-line register (R304, R305). -/
theorem State.AtLine.frameEnd {s t : State} {calls : List SinkCall} (h : t.AtLine s 153 .vBlank calls) :
    (ppuTicks 456 t).AtLine s 0 .objectSearch calls ∧ (ppuTicks 456 t).readByte 0xFF44#16 = 0 := by
  obtain ⟨mode, start, ly, sink, memory⟩ := h
  have tick := ppuTick_vBlank_frameEnd (s := t.atTick 455) mode rfl ly
  obtain ⟨memory', rest⟩ := State.writeLy_spec tick
  have ppu := congrArg State.ppu rest
  rw [ppuTicks_vBlank mode start]
  exact ⟨⟨congrArg Ppu.mode ppu, congrArg Ppu.ticks ppu, congrArg Ppu.ly ppu, (congrArg Ppu.sink ppu).trans sink,
    fun a other => (memory' a).trans ((if_neg other).trans (memory a other))⟩, (memory' _).trans (if_pos rfl)⟩

/-- Settles O58: 144 visible lines, nine blank lines, and the line that ends the frame. -/
theorem frameRendersAndRepeats : Obligations.FrameRendersAndRepeats := by
  intro s mode start first
  have shown := ppuTicks_visibleLines mode start first (Nat.le_refl 144)
  obtain ⟨⟨mode', start', ly', sink', memory'⟩, register⟩ := (shown.blankLines (Nat.le_refl 9)).frameEnd
  have frame : ppuTicks 70224 s = ppuTicks 456 (ppuTicks (456 * 9) (ppuTicks (456 * 144) s)) := by
    rw [← ppuTicks_add, ← ppuTicks_add]
  rw [← frame] at mode' start' ly' sink' memory' register
  refine ⟨?_, mode', start', ly', ppuTicks_violations 70224 s, fun a => ?_⟩
  · rw [sink', frameCalls, if_pos rfl, List.append_assoc]
  · split
    · next register' => rw [register', register]
    · next other => exact memory' a other

end Sys2Proof.Machine
end
